-- ==== Sys2Proof/Word.lean ====
section
/-! DEFINITION. The fixed-width words of the block (spec/30_encoding.md section 1): the formats whose width is not a
parameter. Widths that are parameters are fields of `Config`. -/

namespace Sys2Proof

/-- A ChannelState, format CS: bit 1 is channel A, bit 0 is channel B (`30_encoding.md` R36). -/
abbrev ChannelState := BitVec 2

/-- A TransitionCode, format TC: bits 3:2 the previous ChannelState, bits 1:0 the current one (`30_encoding.md` R37). -/
abbrev TransitionCode := BitVec 4

/-- A host command opcode, the field `cmd_op[3:0]` of format CMD (`30_encoding.md` R41). -/
abbrev Opcode := BitVec 4

end Sys2Proof
end

