-- ==== Sys2Proof/Config.lean ====
section
/-! DEFINITION. The construction parameters of the block (spec/00_scope.md R4): every row marked OPEN there is a field.
They are fixed when the block is constructed and no step changes them. The channel identifiers `CH_A`, `CH_B`, `CH_BTN`
of R4 are the names of the input wires, not numbers. -/

namespace Sys2Proof

/-- The OPEN parameters of `00_scope.md` R4. `rotInterval` and `btnWindow` are in ticks and below `2^TS_WIDTH` by their
type (decision D22). -/
structure Config where
  /-- `CNT_WIDTH`, the width of the position counter. -/
  cntWidth : Nat
  /-- `TS_WIDTH`, the width of the time counter and of every stored timestamp. -/
  tsWidth : Nat
  /-- `TICKS_PER_MS`, ticks of `now` per millisecond. Only the default intervals depend on it. -/
  ticksPerMs : Nat
  /-- `ROT_INTERVAL`, the minimum time between two accepted quadrature samples. -/
  rotInterval : BitVec tsWidth
  /-- `BTN_WINDOW`, the button debounce window. -/
  btnWindow : BitVec tsWidth
  /-- `INIT_POS`, the counter's value at construction. -/
  initPos : BitVec cntWidth
  deriving DecidableEq, Repr

/-- A configuration for given widths and tick with R4's defaults for the rest: `ROT_INTERVAL = 1 * TICKS_PER_MS`,
`BTN_WINDOW = 50 * TICKS_PER_MS`, `INIT_POS = 0`. -/
def Config.ofWidths (cntWidth tsWidth ticksPerMs : Nat) : Config where
  cntWidth := cntWidth
  tsWidth := tsWidth
  ticksPerMs := ticksPerMs
  rotInterval := BitVec.ofNat tsWidth (1 * ticksPerMs)
  btnWindow := BitVec.ofNat tsWidth (50 * ticksPerMs)
  initPos := 0#cntWidth

/-- The configuration with every parameter at R4's default: 32 bits, 32 bits, 1000 ticks per millisecond. -/
def Config.standard : Config := Config.ofWidths 32 32 1000

/-- The ranges R4 sets: `CNT_WIDTH` at least 2, `TS_WIDTH` at least 1. The ranges of the intervals hold by their types.
Anything else is not a legal configuration (`93_implementation_defined.md` U14). -/
def Config.legal (c : Config) : Bool := decide (2 ≤ c.cntWidth) && decide (1 ≤ c.tsWidth)

/-- `RSP_WIDTH = max(CNT_WIDTH, TS_WIDTH)` (`30_encoding.md` R40). -/
abbrev Config.rspWidth (c : Config) : Nat := max c.cntWidth c.tsWidth

end Sys2Proof
end

