-- ==== Sys2Proof/Syntax.lean ====
section
/-! DEFINITION. The instructions of the block: one constructor for each row of spec/opcode_table.json. The sixteen
TransitionCodes (format TC) are what an EDGE step runs; the sixteen opcodes (format CMD) are what a host command runs. -/

namespace Sys2Proof

/-- The two formats a step is encoded in (`30_encoding.md` section 1): a TransitionCode, which an EDGE step forms and
which is not a command word (R45), or a host command. -/
inductive Format where
  | tc
  | cmd
  deriving DecidableEq, Repr

/-- The instructions. The only operand is that of SET_POSITION, the signed decimal of the line syntax
(`30_encoding.md` R42, R45). -/
inductive Instr where
  /-- TransitionCode `00` to `00`, duplicate, NoStep (`40_quadrature_state_machine.md` R50). -/
  | tcNoStep0000
  /-- TransitionCode `00` to `01`, single-bit endpoint, CounterClockwise (`40_quadrature_state_machine.md` R49). -/
  | tcCcw0001
  /-- TransitionCode `00` to `10`, single-bit intermediate, NoStep (`40_quadrature_state_machine.md` R50). -/
  | tcNoStep0010
  /-- TransitionCode `00` to `11`, double-bit, NoStep (`40_quadrature_state_machine.md` R50). -/
  | tcNoStep0011
  /-- TransitionCode `01` to `00`, single-bit endpoint, Clockwise (`40_quadrature_state_machine.md` R48). -/
  | tcCw0100
  /-- TransitionCode `01` to `01`, duplicate, NoStep (`40_quadrature_state_machine.md` R50). -/
  | tcNoStep0101
  /-- TransitionCode `01` to `10`, double-bit, NoStep (`40_quadrature_state_machine.md` R50). -/
  | tcNoStep0110
  /-- TransitionCode `01` to `11`, single-bit intermediate, NoStep (`40_quadrature_state_machine.md` R50). -/
  | tcNoStep0111
  /-- TransitionCode `10` to `00`, single-bit intermediate, NoStep (`40_quadrature_state_machine.md` R50). -/
  | tcNoStep1000
  /-- TransitionCode `10` to `01`, double-bit, NoStep (`40_quadrature_state_machine.md` R50). -/
  | tcNoStep1001
  /-- TransitionCode `10` to `10`, duplicate, NoStep (`40_quadrature_state_machine.md` R50). -/
  | tcNoStep1010
  /-- TransitionCode `10` to `11`, single-bit endpoint, Clockwise (`40_quadrature_state_machine.md` R48). -/
  | tcCw1011
  /-- TransitionCode `11` to `00`, double-bit, NoStep (`40_quadrature_state_machine.md` R50). -/
  | tcNoStep1100
  /-- TransitionCode `11` to `01`, single-bit intermediate, NoStep (`40_quadrature_state_machine.md` R50). -/
  | tcNoStep1101
  /-- TransitionCode `11` to `10`, single-bit endpoint, CounterClockwise (`40_quadrature_state_machine.md` R49). -/
  | tcCcw1110
  /-- TransitionCode `11` to `11`, duplicate, NoStep (`40_quadrature_state_machine.md` R50). -/
  | tcNoStep1111
  /-- `RESERVED.0000`, `cmd_op = 0x0` (R83). -/
  | reserved0000
  /-- `INIT`, `cmd_op = 0x1` (R80). -/
  | init
  /-- `UPDATE`, `cmd_op = 0x2` (R67). -/
  | update
  /-- `GET_POSITION`, `cmd_op = 0x3` (R60). -/
  | getPosition
  /-- `RESET_POSITION`, `cmd_op = 0x4` (R61). -/
  | resetPosition
  /-- `SET_POSITION`, `cmd_op = 0x5` (R62). -/
  | setPosition (value : Int)
  /-- `IS_PRESSED`, `cmd_op = 0x6` (R68). -/
  | isPressed
  /-- `WAS_PRESSED`, `cmd_op = 0x7` (R69). -/
  | wasPressed
  /-- `WAS_RELEASED`, `cmd_op = 0x8` (R70). -/
  | wasReleased
  /-- `GET_PRESSED_DURATION`, `cmd_op = 0x9` (R71). -/
  | getPressedDuration
  /-- `TEARDOWN`, `cmd_op = 0xa` (R81). -/
  | teardown
  /-- `RESERVED.1011`, `cmd_op = 0xb` (R83). -/
  | reserved1011
  /-- `RESERVED.1100`, `cmd_op = 0xc` (R83). -/
  | reserved1100
  /-- `RESERVED.1101`, `cmd_op = 0xd` (R83). -/
  | reserved1101
  /-- `RESERVED.1110`, `cmd_op = 0xe` (R83). -/
  | reserved1110
  /-- `RESERVED.1111`, `cmd_op = 0xf` (R83). -/
  | reserved1111
  deriving DecidableEq, Repr

/-- The format a row of the table is encoded in. -/
def Instr.format : Instr → Format
  | .tcNoStep0000 => .tc
  | .tcCcw0001 => .tc
  | .tcNoStep0010 => .tc
  | .tcNoStep0011 => .tc
  | .tcCw0100 => .tc
  | .tcNoStep0101 => .tc
  | .tcNoStep0110 => .tc
  | .tcNoStep0111 => .tc
  | .tcNoStep1000 => .tc
  | .tcNoStep1001 => .tc
  | .tcNoStep1010 => .tc
  | .tcCw1011 => .tc
  | .tcNoStep1100 => .tc
  | .tcNoStep1101 => .tc
  | .tcCcw1110 => .tc
  | .tcNoStep1111 => .tc
  | .reserved0000 => .cmd
  | .init => .cmd
  | .update => .cmd
  | .getPosition => .cmd
  | .resetPosition => .cmd
  | .setPosition _ => .cmd
  | .isPressed => .cmd
  | .wasPressed => .cmd
  | .wasReleased => .cmd
  | .getPressedDuration => .cmd
  | .teardown => .cmd
  | .reserved1011 => .cmd
  | .reserved1100 => .cmd
  | .reserved1101 => .cmd
  | .reserved1110 => .cmd
  | .reserved1111 => .cmd

/-- The row's mnemonic as spec/opcode_table.json spells it. -/
def Instr.mnemonic : Instr → String
  | .tcNoStep0000 => "TC.NOSTEP.0000"
  | .tcCcw0001 => "TC.CCW.0001"
  | .tcNoStep0010 => "TC.NOSTEP.0010"
  | .tcNoStep0011 => "TC.NOSTEP.0011"
  | .tcCw0100 => "TC.CW.0100"
  | .tcNoStep0101 => "TC.NOSTEP.0101"
  | .tcNoStep0110 => "TC.NOSTEP.0110"
  | .tcNoStep0111 => "TC.NOSTEP.0111"
  | .tcNoStep1000 => "TC.NOSTEP.1000"
  | .tcNoStep1001 => "TC.NOSTEP.1001"
  | .tcNoStep1010 => "TC.NOSTEP.1010"
  | .tcCw1011 => "TC.CW.1011"
  | .tcNoStep1100 => "TC.NOSTEP.1100"
  | .tcNoStep1101 => "TC.NOSTEP.1101"
  | .tcCcw1110 => "TC.CCW.1110"
  | .tcNoStep1111 => "TC.NOSTEP.1111"
  | .reserved0000 => "RESERVED.0000"
  | .init => "INIT"
  | .update => "UPDATE"
  | .getPosition => "GET_POSITION"
  | .resetPosition => "RESET_POSITION"
  | .setPosition _ => "SET_POSITION"
  | .isPressed => "IS_PRESSED"
  | .wasPressed => "WAS_PRESSED"
  | .wasReleased => "WAS_RELEASED"
  | .getPressedDuration => "GET_PRESSED_DURATION"
  | .teardown => "TEARDOWN"
  | .reserved1011 => "RESERVED.1011"
  | .reserved1100 => "RESERVED.1100"
  | .reserved1101 => "RESERVED.1101"
  | .reserved1110 => "RESERVED.1110"
  | .reserved1111 => "RESERVED.1111"

end Sys2Proof
end

