-- ==== Sys2Proof/WellFormed.lean ====
section
/-! DEFINITION. The checks an instruction must pass before it can be encoded. Only SET_POSITION has an operand, and every
`CNT_WIDTH`-bit two's-complement value is legal for it (spec/30_encoding.md R42). -/

namespace Sys2Proof

/-- SET_POSITION's operand lies in `-2^(CNT_WIDTH-1) .. 2^(CNT_WIDTH-1) - 1`, the range of `sint` (`00_scope.md` R6). -/
def Config.operandFits (c : Config) (value : Int) : Bool :=
  decide (-2 ^ (c.cntWidth - 1) ≤ value) && decide (value < 2 ^ (c.cntWidth - 1))

/-- An instruction is well formed for a configuration when its operand fits it. -/
def Instr.wellFormed (c : Config) : Instr → Bool
  | .tcNoStep0000 => true
  | .tcCcw0001 => true
  | .tcNoStep0010 => true
  | .tcNoStep0011 => true
  | .tcCw0100 => true
  | .tcNoStep0101 => true
  | .tcNoStep0110 => true
  | .tcNoStep0111 => true
  | .tcNoStep1000 => true
  | .tcNoStep1001 => true
  | .tcNoStep1010 => true
  | .tcCw1011 => true
  | .tcNoStep1100 => true
  | .tcNoStep1101 => true
  | .tcCcw1110 => true
  | .tcNoStep1111 => true
  | .reserved0000 => true
  | .init => true
  | .update => true
  | .getPosition => true
  | .resetPosition => true
  | .setPosition value => c.operandFits value
  | .isPressed => true
  | .wasPressed => true
  | .wasReleased => true
  | .getPressedDuration => true
  | .teardown => true
  | .reserved1011 => true
  | .reserved1100 => true
  | .reserved1101 => true
  | .reserved1110 => true
  | .reserved1111 => true

end Sys2Proof
end

