-- ==== Sys2Proof/Decode.lean ====
section
/-! DEFINITION. The encodings of spec/30_encoding.md: ChannelState and TransitionCode, the TransitionCode map (R38), the
command map (R41), the decoder from numbered words and the encoder. None of the sixteen codes and none of the sixteen
opcodes is undecodable (R39, R44); a number too wide for its format is rejected by name. -/

namespace Sys2Proof

/-- `cs = (a << 1) | b`, with channel A in bit 1 and a high level read as 1 (`30_encoding.md` R36, decision D2). -/
def channelState (a b : Bool) : ChannelState :=
  (BitVec.ofBool a).zeroExtend 2 <<< 1 ||| (BitVec.ofBool b).zeroExtend 2

/-- `code = (prev << 2) | cur` (`30_encoding.md` R37). -/
def transitionCode (prev cur : ChannelState) : TransitionCode :=
  prev.zeroExtend 4 <<< 2 ||| cur.zeroExtend 4

/-- The field `code[3:2]`, the previous ChannelState (`30_encoding.md` R37). -/
def TransitionCode.prev (code : TransitionCode) : ChannelState := code.extractLsb 3 2

/-- The field `code[1:0]`, the current ChannelState (`30_encoding.md` R37). -/
def TransitionCode.cur (code : TransitionCode) : ChannelState := code.extractLsb 1 0

/-- The classes of code of `30_encoding.md` R39 and the column "kind" of R38. -/
inductive CodeClass where
  | duplicate
  | singleBitEndpoint
  | singleBitIntermediate
  | doubleBit
  deriving DecidableEq, Repr

/-- The class of a code from what changed between its halves: nothing, both channels, channel B only (an endpoint) or
channel A only (`30_encoding.md` R38, R39). -/
def TransitionCode.kind (code : TransitionCode) : CodeClass :=
  match code.prev.getLsbD 1 == code.cur.getLsbD 1, code.prev.getLsbD 0 == code.cur.getLsbD 0 with
  | true, true => .duplicate
  | true, false => .singleBitEndpoint
  | false, true => .singleBitIntermediate
  | false, false => .doubleBit

/-- The TransitionCode map (`30_encoding.md` R38), bit 3 first. -/
def decodeCode (code : TransitionCode) : Instr :=
  match code.getLsbD 3, code.getLsbD 2, code.getLsbD 1, code.getLsbD 0 with
  | false, false, false, false => .tcNoStep0000
  | false, false, false, true => .tcCcw0001
  | false, false, true, false => .tcNoStep0010
  | false, false, true, true => .tcNoStep0011
  | false, true, false, false => .tcCw0100
  | false, true, false, true => .tcNoStep0101
  | false, true, true, false => .tcNoStep0110
  | false, true, true, true => .tcNoStep0111
  | true, false, false, false => .tcNoStep1000
  | true, false, false, true => .tcNoStep1001
  | true, false, true, false => .tcNoStep1010
  | true, false, true, true => .tcCw1011
  | true, true, false, false => .tcNoStep1100
  | true, true, false, true => .tcNoStep1101
  | true, true, true, false => .tcCcw1110
  | true, true, true, true => .tcNoStep1111

/-- The command map (`30_encoding.md` R41, R44), opcode bit 3 first. The operand is read by SET_POSITION only, as a
two's-complement value taken whole (R42), and ignored by every other command (R40). -/
def decodeCommand {width : Nat} (op : Opcode) (arg : BitVec width) : Instr :=
  match op.getLsbD 3, op.getLsbD 2, op.getLsbD 1, op.getLsbD 0 with
  | false, false, false, false => .reserved0000
  | false, false, false, true => .init
  | false, false, true, false => .update
  | false, false, true, true => .getPosition
  | false, true, false, false => .resetPosition
  | false, true, false, true => .setPosition arg.toInt
  | false, true, true, false => .isPressed
  | false, true, true, true => .wasPressed
  | true, false, false, false => .wasReleased
  | true, false, false, true => .getPressedDuration
  | true, false, true, false => .teardown
  | true, false, true, true => .reserved1011
  | true, true, false, false => .reserved1100
  | true, true, false, true => .reserved1101
  | true, true, true, false => .reserved1110
  | true, true, true, true => .reserved1111

/-- Why a number is no word of its format. -/
inductive DecodeError where
  /-- A TransitionCode has 4 bits (`30_encoding.md` R37). -/
  | codeTooWide
  /-- A command has `4 + CNT_WIDTH` bits (`30_encoding.md` section 1). -/
  | commandTooWide
  deriving DecidableEq, Repr

/-- What the decoder answers. -/
inductive Decoded where
  | instr (i : Instr)
  | rejected (reason : DecodeError)
  deriving DecidableEq, Repr

/-- The instruction read, if one was. -/
def Decoded.toOption : Decoded → Option Instr
  | .instr i => some i
  | .rejected _ => none

/-- The bits a word of a format has (`30_encoding.md` section 1). -/
def Config.formatWidth (c : Config) : Format → Nat
  | .tc => 4
  | .cmd => 4 + c.cntWidth

/-- The opcode field of a command word: its bits 3:0. -/
def commandOpcode (word : Nat) : Opcode := BitVec.ofNat 4 word

/-- The operand field of a command word: the bits above the opcode (log 21). -/
def commandOperand (width word : Nat) : BitVec width := BitVec.ofNat width (word >>> 4)

/-- The decoder: total on every number. -/
def decodeWord (c : Config) (f : Format) (word : Nat) : Decoded :=
  match f with
  | .tc => if word < 2 ^ c.formatWidth .tc then .instr (decodeCode (BitVec.ofNat 4 word)) else .rejected .codeTooWide
  | .cmd =>
    if word < 2 ^ c.formatWidth .cmd then .instr (decodeCommand (commandOpcode word) (commandOperand c.cntWidth word))
    else .rejected .commandTooWide

/-- The encoder: the format and the number of a well-formed instruction, bit 0 the least significant. A command that
takes no operand is given the operand 0 (log 19). -/
def encodeWord (c : Config) : Instr → Format × Nat
  | .tcNoStep0000 => (.tc, 0x0)
  | .tcCcw0001 => (.tc, 0x1)
  | .tcNoStep0010 => (.tc, 0x2)
  | .tcNoStep0011 => (.tc, 0x3)
  | .tcCw0100 => (.tc, 0x4)
  | .tcNoStep0101 => (.tc, 0x5)
  | .tcNoStep0110 => (.tc, 0x6)
  | .tcNoStep0111 => (.tc, 0x7)
  | .tcNoStep1000 => (.tc, 0x8)
  | .tcNoStep1001 => (.tc, 0x9)
  | .tcNoStep1010 => (.tc, 0xA)
  | .tcCw1011 => (.tc, 0xB)
  | .tcNoStep1100 => (.tc, 0xC)
  | .tcNoStep1101 => (.tc, 0xD)
  | .tcCcw1110 => (.tc, 0xE)
  | .tcNoStep1111 => (.tc, 0xF)
  | .reserved0000 => (.cmd, 0x0)
  | .init => (.cmd, 0x1)
  | .update => (.cmd, 0x2)
  | .getPosition => (.cmd, 0x3)
  | .resetPosition => (.cmd, 0x4)
  | .setPosition value => (.cmd, 0x5 ||| (BitVec.ofInt c.cntWidth value).toNat <<< 4)
  | .isPressed => (.cmd, 0x6)
  | .wasPressed => (.cmd, 0x7)
  | .wasReleased => (.cmd, 0x8)
  | .getPressedDuration => (.cmd, 0x9)
  | .teardown => (.cmd, 0xA)
  | .reserved1011 => (.cmd, 0xB)
  | .reserved1100 => (.cmd, 0xC)
  | .reserved1101 => (.cmd, 0xD)
  | .reserved1110 => (.cmd, 0xE)
  | .reserved1111 => (.cmd, 0xF)

/-- The format of a word that the opcode table gives `nbits` bits: a TransitionCode has exactly 4, every wider word is a
command. Both formats use the numbers `0x0` to `0xF`, so a number alone does not say which it is (log 7). -/
def tableFormat (nbits : Nat) : Format := if nbits ≤ 4 then .tc else .cmd

/-- The number an `nbits`-bit table word stands for: its bits above `nbits` are 0. -/
def tableBits (nbits w : Nat) : Nat := w % 2 ^ nbits

/-- The instruction the decoder reads from an instruction whose bits are `w`, numbered as spec/opcode_table.json numbers
them, for the default configuration. -/
def decodeTableWord (nbits w : Nat) : Option Instr :=
  (decodeWord Config.standard (tableFormat nbits) (tableBits nbits w)).toOption

end Sys2Proof
end

