-- ==== Sys2Proof/Machine/State.lean ====
section
/-! DEFINITION. The state of the machine: the ten registers of spec/10_state.md R9 and nothing else of the block's own,
beside the construction parameters (`cfg`), the input ports (`wires`), the order of steps the environment has yet to
perform (`schedule`) and the response port (`rsp`). Everything is plain data. -/

namespace Sys2Proof.Machine

/-- The lifecycle (`10_state.md` R10, decision D10). The code `0b11` is never produced, so it has no constructor (log 6). -/
inductive Lifecycle where
  /-- Constructed, edge path detached, no successful INIT yet. -/
  | uninit
  /-- INIT succeeded, edge path attached. -/
  | active
  /-- TEARDOWN done; terminal until hardware reset. -/
  | detached
  deriving DecidableEq, Repr

/-- The value of `life[1:0]` (`10_state.md` R10). -/
def Lifecycle.bits : Lifecycle → BitVec 2
  | .uninit => 0b00
  | .active => 0b01
  | .detached => 0b10

/-- The ten registers of `10_state.md` R9, at the widths of a configuration. -/
structure Registers (c : Config) where
  /-- R10. Written by INIT and TEARDOWN. -/
  life : Lifecycle
  /-- R11. The ChannelState of the most recent accepted sample, or INIT's baseline. -/
  prevState : ChannelState
  /-- R12. `now` at the most recent accepted sample, or at INIT. -/
  lastAccepted : BitVec c.tsWidth
  /-- R13. The position counter, two's complement. -/
  pos : BitVec c.cntWidth
  /-- R14. The last sampled raw state as a pressed bit: true when the level was low. -/
  btnRaw : Bool
  /-- R15. The debounced state: false is Released, true is Pressed. -/
  btnStable : Bool
  /-- R16. `now` at the most recent UPDATE that saw the raw state change, or at INIT. -/
  btnLastChange : BitVec c.tsWidth
  /-- R17. `now` at the UPDATE that committed the most recent press, or at INIT. -/
  pressStart : BitVec c.tsWidth
  /-- R18. The one-shot "pressed" flag. -/
  flagPressed : Bool
  /-- R19. The one-shot "released" flag. -/
  flagReleased : Bool
  deriving DecidableEq, Repr

/-- The registers after hardware reset (`10_state.md` R25, `70_reset_and_hazards.md` R99). -/
def Registers.reset (c : Config) : Registers c where
  life := .uninit
  prevState := 0b00
  lastAccepted := 0#c.tsWidth
  pos := c.initPos
  btnRaw := false
  btnStable := false
  btnLastChange := 0#c.tsWidth
  pressStart := 0#c.tsWidth
  flagPressed := false
  flagReleased := false

/-- The input wires a step may sample (`30_encoding.md` R40): levels, true for high. -/
structure Wires (c : Config) where
  /-- `ch_a`, quadrature channel A. -/
  chA : Bool
  /-- `ch_b`, quadrature channel B. -/
  chB : Bool
  /-- `btn`, the button channel; low means pressed. -/
  btn : Bool
  /-- `attach_ok`, the platform's answer to an attach request (`60_exceptions.md` R88). -/
  attachOk : Bool
  /-- `now`, the time counter (`60_exceptions.md` R97). -/
  now : BitVec c.tsWidth
  deriving DecidableEq, Repr

/-- What starts a step (`44_decoder_top_and_lifecycle.md` R76), and so which agent moves (`00_scope.md` R8). -/
inductive Event (c : Config) where
  /-- A level change of `ch_a` or `ch_b`: the edge agent performs an EDGE step (R78, R79). -/
  | edge
  /-- A presentation on the command port (`cmd_valid`) with `cmd_op` and `cmd_arg`: the host performs a command step. -/
  | command (op : Opcode) (arg : BitVec c.cntWidth)
  /-- Hardware reset, the port `rst` (`70_reset_and_hazards.md` R99). -/
  | hardwareReset
  deriving DecidableEq, Repr

/-- One step the environment starts, with the levels and the time its step reads. -/
structure Stimulus (c : Config) where
  event : Event c
  wires : Wires c
  deriving DecidableEq, Repr

/-- The status of a command (`30_encoding.md` R43, decision D9). -/
inductive Status where
  /-- The command ran as its rule says. -/
  | ok
  /-- Suppressed because `life` does not permit it. -/
  | errState
  /-- INIT failed to attach the edge path. -/
  | errAttach
  /-- Reserved opcode. -/
  | errOpcode
  deriving DecidableEq, Repr

/-- The code on `rsp_status[1:0]` (`30_encoding.md` R43). -/
def Status.bits : Status → BitVec 2
  | .ok => 0b00
  | .errState => 0b01
  | .errAttach => 0b10
  | .errOpcode => 0b11

/-- The response ports `rsp_status` and `rsp_data` (`30_encoding.md` R40, R42). -/
structure Response (c : Config) where
  status : Status
  data : BitVec c.rspWidth
  deriving DecidableEq, Repr

/-- The state. -/
structure State where
  /-- The construction parameters; no step writes them (`00_scope.md` R4, `10_state.md` R20; log 4). -/
  cfg : Config
  /-- The ten registers (`10_state.md` R9). -/
  regs : Registers cfg
  /-- The input wires of the current step (log 2). -/
  wires : Wires cfg
  /-- The total order of steps still to come (`20_memory.md` R30). It is the environment's, not a queue of the block:
  each entry carries its own inputs, and no meaning reads or writes it (`10_state.md` R24; log 1). -/
  schedule : List (Stimulus cfg)
  /-- The response the latest step drove, none for a step without one. It is a port, not a register: no meaning reads it
  (`30_encoding.md` R42; log 3). -/
  rsp : Option (Response cfg)
  deriving DecidableEq, Repr

/-- The faults. There is none: no step of the block traps, halts or hangs (`60_exceptions.md` R89; log 20). -/
inductive Fault
  deriving DecidableEq, Repr

/-- The refusals. -/
inductive Refusal where
  /-- Raised by an arm of `exec` for an instruction without a meaning; no arm does. Safe. -/
  | notModelled (mnemonic : String)
  /-- Raised by `step` in a state whose parameters are outside the ranges of `00_scope.md` R4
  (`93_implementation_defined.md` U14; log 5). Safe. -/
  | illegalConfiguration
  deriving DecidableEq, Repr

/-- The wires when nothing drives them: all low, time 0. A choice of the model's (log 2). -/
def Wires.quiet (c : Config) : Wires c where
  chA := false
  chB := false
  btn := false
  attachOk := false
  now := 0#c.tsWidth

/-- The machine constructed with given parameters, right after hardware reset, with nothing scheduled. -/
def State.constructed (c : Config) : State where
  cfg := c
  regs := Registers.reset c
  wires := Wires.quiet c
  schedule := []
  rsp := none

/-- The machine right after reset, with every parameter at its default (`00_scope.md` R4, `10_state.md` R25). -/
def State.reset : State := State.constructed Config.standard

end Sys2Proof.Machine
end

