-- ==== Sys2Proof/Machine/Ops.lean ====
section
/-! DEFINITION. The named operations every meaning is written over: the one writer of each register, ending a step with
its registers and its response, the lifecycle gate, the one error the block reports, and hardware reset. -/

namespace Sys2Proof.Machine

variable {c : Config}

/-- `life <- v` (`10_state.md` R10). -/
def Registers.writeLife (r : Registers c) (v : Lifecycle) : Registers c := { r with life := v }

/-- `prevState <- v` (`10_state.md` R11). -/
def Registers.writePrevState (r : Registers c) (v : ChannelState) : Registers c := { r with prevState := v }

/-- `lastAccepted <- v` (`10_state.md` R12). -/
def Registers.writeLastAccepted (r : Registers c) (v : BitVec c.tsWidth) : Registers c := { r with lastAccepted := v }

/-- `pos <- v` (`10_state.md` R13). -/
def Registers.writePos (r : Registers c) (v : BitVec c.cntWidth) : Registers c := { r with pos := v }

/-- `btnRaw <- v` (`10_state.md` R14). -/
def Registers.writeBtnRaw (r : Registers c) (v : Bool) : Registers c := { r with btnRaw := v }

/-- `btnStable <- v` (`10_state.md` R15). -/
def Registers.writeBtnStable (r : Registers c) (v : Bool) : Registers c := { r with btnStable := v }

/-- `btnLastChange <- v` (`10_state.md` R16). -/
def Registers.writeBtnLastChange (r : Registers c) (v : BitVec c.tsWidth) : Registers c := { r with btnLastChange := v }

/-- `pressStart <- v` (`10_state.md` R17). -/
def Registers.writePressStart (r : Registers c) (v : BitVec c.tsWidth) : Registers c := { r with pressStart := v }

/-- `flagPressed <- v` (`10_state.md` R18). -/
def Registers.writeFlagPressed (r : Registers c) (v : Bool) : Registers c := { r with flagPressed := v }

/-- `flagReleased <- v` (`10_state.md` R19). -/
def Registers.writeFlagReleased (r : Registers c) (v : Bool) : Registers c := { r with flagReleased := v }

/-- The end of every step: the registers it leaves and the response it drives, if any (`00_scope.md` R7, R8). Nothing
else of the state changes. -/
def State.complete (s : State) (r : Registers s.cfg) (rsp : Option (Response s.cfg)) : State :=
  { s with regs := r, rsp := rsp }

/-- `respond(status, data)` after the register writes of a command (`00_scope.md` R7, `30_encoding.md` R42). -/
def respond (s : State) (r : Registers s.cfg) (status : Status) (data : BitVec s.cfg.rspWidth) :
    Host.Outcome State Fault Refusal :=
  .next (s.complete r (some { status := status, data := data }))

/-- A command that the lifecycle does not permit: `respond(ERR_STATE, 0)`, no register changes
(`44_decoder_top_and_lifecycle.md` R82). -/
def suppress (s : State) : Host.Outcome State Fault Refusal := respond s s.regs .errState 0

/-- A command that runs in ACTIVE only and is suppressed elsewhere (`44_decoder_top_and_lifecycle.md` R82). -/
def respondWhenActive (s : State) (r : Registers s.cfg) (data : BitVec s.cfg.rspWidth) :
    Host.Outcome State Fault Refusal :=
  if s.regs.life = .active then respond s r .ok data else suppress s

/-- Taking the one error of the block, AttachFailure: `respond(ERR_ATTACH, 0)`, no register changes, nothing is saved and
`life` stays UNINIT (`60_exceptions.md` R87, R90). There is no handler to enter and so no return from it. -/
def raiseAttachFailure (s : State) : Host.Outcome State Fault Refusal := respond s s.regs .errAttach 0

/-- An EDGE step without an effect, detached or rejected: no register changes and no response is driven
(`44_decoder_top_and_lifecycle.md` R78, R82). -/
def edgeIgnored (s : State) : Host.Outcome State Fault Refusal := .next (s.complete s.regs none)

/-- Hardware reset: every register at the value of `10_state.md` R25; no wire is sampled and `now` is not read
(`70_reset_and_hazards.md` R99, R100; log 12). -/
def State.hardwareReset (s : State) : State := s.complete (Registers.reset s.cfg) none

end Sys2Proof.Machine
end

