-- ==== Sys2Proof/Machine/Operands.lean ====
section
/-! DEFINITION. The operand and value computations of the block: time differences, the debounce verdict, the pin samples,
the classification of a transition, and the assembly of response data. -/

namespace Sys2Proof.Machine

variable {c : Config}

/-- `tsub(a, b) = (a - b) mod 2^TS_WIDTH`, unsigned (`00_scope.md` R6). -/
def tsub {width : Nat} (a b : BitVec width) : BitVec width := a - b

/-- The verdict of `rot_filter`: accept unless `tsub(now, lastAccepted) <u ROT_INTERVAL`
(`41_rotary_debounce_filter.md` R54, R55). -/
def filterAccepts (c : Config) (now lastAccepted : BitVec c.tsWidth) : Bool :=
  !((tsub now lastAccepted).ult c.rotInterval)

/-- `sample_ab()` as a ChannelState (`44_decoder_top_and_lifecycle.md` R77). -/
def Wires.sampleChannels (w : Wires c) : ChannelState := channelState w.chA w.chB

/-- The raw button sample as a pressed bit: a low level is pressed (`43_button_edge_detector.md` R66). -/
def Wires.samplePressed (w : Wires c) : Bool := !w.btn

/-- The result of a classification (`40_quadrature_state_machine.md` R47). -/
inductive Direction where
  | clockwise
  | counterClockwise
  | noStep
  deriving DecidableEq, Repr

/-- `classify(prev, cur)` (`40_quadrature_state_machine.md` R47). -/
def classify (prev cur : ChannelState) : Direction :=
  let code := transitionCode prev cur
  if code = 0xB#4 ∨ code = 0x4#4 then .clockwise
  else if code = 0xE#4 ∨ code = 0x1#4 then .counterClockwise
  else .noStep

/-- INC: `pos <- pos +_CNT_WIDTH 1`, wrapping (`42_position_counter.md` R58, R63; log 16). -/
def Registers.inc (r : Registers c) : Registers c := r.writePos (r.pos + 1#c.cntWidth)

/-- DEC: `pos <- pos -_CNT_WIDTH 1`, wrapping (`42_position_counter.md` R59, R63; log 16). -/
def Registers.dec (r : Registers c) : Registers c := r.writePos (r.pos - 1#c.cntWidth)

/-- What a classification does to the counter (`44_decoder_top_and_lifecycle.md` R78). -/
def Registers.count (r : Registers c) : Direction → Registers c
  | .clockwise => r.inc
  | .counterClockwise => r.dec
  | .noStep => r

/-- The operand of SET_POSITION as the `CNT_WIDTH`-bit pattern (`30_encoding.md` R42). -/
def operandBits (c : Config) (value : Int) : BitVec c.cntWidth := BitVec.ofInt c.cntWidth value

/-- `sext_RSP_WIDTH(pos)` (`30_encoding.md` R42). -/
def dataOfPosition (c : Config) (v : BitVec c.cntWidth) : BitVec c.rspWidth := v.signExtend c.rspWidth

/-- `zext_RSP_WIDTH(duration)` (`30_encoding.md` R42). -/
def dataOfTime (c : Config) (t : BitVec c.tsWidth) : BitVec c.rspWidth := t.zeroExtend c.rspWidth

/-- `zext_RSP_WIDTH(bit)`, 1 for true (`30_encoding.md` R42). -/
def dataOfBit (c : Config) (b : Bool) : BitVec c.rspWidth := (BitVec.ofBool b).zeroExtend c.rspWidth

end Sys2Proof.Machine
end

