-- ==== Sys2Proof/Machine/Flags.lean ====
section
/-! DEFINITION. The two one-shot edge flags (spec/10_state.md R18, R19): what sets and what clears each. There are no
condition codes and no overflow flag. -/

namespace Sys2Proof.Machine

variable {c : Config}

/-- The flag a commit of a new debounced state sets: "pressed" on Released to Pressed, "released" on Pressed to Released.
The other flag keeps its value (`43_button_edge_detector.md` R67 corner case (iii)). -/
def Registers.raiseEdgeFlag (r : Registers c) (pressed : Bool) : Registers c :=
  if pressed then r.writeFlagPressed true else r.writeFlagReleased true

/-- WAS_PRESSED's clearing of the flag it returned (`43_button_edge_detector.md` R69). -/
def Registers.consumePressed (r : Registers c) : Registers c := r.writeFlagPressed false

/-- WAS_RELEASED's clearing of the flag it returned (`43_button_edge_detector.md` R70). -/
def Registers.consumeReleased (r : Registers c) : Registers c := r.writeFlagReleased false

/-- INIT clears both flags (`44_decoder_top_and_lifecycle.md` R80, decision D12). -/
def Registers.clearFlags (r : Registers c) : Registers c := (r.writeFlagPressed false).writeFlagReleased false

end Sys2Proof.Machine
end

