-- ==== Sys2Proof/Machine/Button.lean ====
section
/-! DEFINITION. The button commands (spec/43_button_edge_detector.md): the poll step UPDATE and the four queries. -/

namespace Sys2Proof.Machine

variable {c : Config}

/-- Steps 1 and 2 of UPDATE: a raw state that differs from `btnRaw` starts a new stability window at `t`, and `btnRaw`
takes the sample whatever it is (`43_button_edge_detector.md` R67). -/
def Registers.sampleButton (r : Registers c) (raw : Bool) (t : BitVec c.tsWidth) : Registers c :=
  (if raw ≠ r.btnRaw then r.writeBtnLastChange t else r).writeBtnRaw raw

/-- `tsub(t, btnLastChange) >=u BTN_WINDOW` (`43_button_edge_detector.md` R67). -/
def Registers.windowElapsed (r : Registers c) (t : BitVec c.tsWidth) : Bool :=
  c.btnWindow.ule (tsub t r.btnLastChange)

/-- The commit of a new debounced state: `btnStable <- raw`, the edge flag of its sense, and on a press
`pressStart <- t` (`43_button_edge_detector.md` R67, decision D14). -/
def Registers.commitButton (r : Registers c) (raw : Bool) (t : BitVec c.tsWidth) : Registers c :=
  let r' := (r.writeBtnStable raw).raiseEdgeFlag raw
  if raw then r'.writePressStart t else r'

/-- Step 3 of UPDATE, over the registers step 2 left (`43_button_edge_detector.md` R67). -/
def Registers.debounceButton (r : Registers c) (raw : Bool) (t : BitVec c.tsWidth) : Registers c :=
  if r.windowElapsed t = true ∧ raw ≠ r.btnStable then r.commitButton raw t else r

/-- UPDATE: in ACTIVE, sample, restart the window on a change, commit when stable (`43_button_edge_detector.md` R67). -/
def execUpdate (s : State) : Host.Outcome State Fault Refusal :=
  let raw := s.wires.samplePressed
  respondWhenActive s ((s.regs.sampleButton raw s.wires.now).debounceButton raw s.wires.now) 0

/-- IS_PRESSED: `respond(OK, btnStable)` in every lifecycle state; `btn` is not sampled (`43_button_edge_detector.md` R68). -/
def execIsPressed (s : State) : Host.Outcome State Fault Refusal :=
  respond s s.regs .ok (dataOfBit s.cfg s.regs.btnStable)

/-- WAS_PRESSED: in ACTIVE, return `flagPressed` and clear it (`43_button_edge_detector.md` R69). -/
def execWasPressed (s : State) : Host.Outcome State Fault Refusal :=
  respondWhenActive s s.regs.consumePressed (dataOfBit s.cfg s.regs.flagPressed)

/-- WAS_RELEASED: in ACTIVE, return `flagReleased` and clear it (`43_button_edge_detector.md` R70). -/
def execWasReleased (s : State) : Host.Outcome State Fault Refusal :=
  respondWhenActive s s.regs.consumeReleased (dataOfBit s.cfg s.regs.flagReleased)

/-- The press duration: `tsub(now, pressStart)` while Pressed, 0 while Released (`43_button_edge_detector.md` R71). -/
def Registers.pressedFor (r : Registers c) (now : BitVec c.tsWidth) : BitVec c.tsWidth :=
  if r.btnStable then tsub now r.pressStart else 0#c.tsWidth

/-- GET_PRESSED_DURATION: the press duration in ticks, in every lifecycle state (`43_button_edge_detector.md` R71). -/
def execGetPressedDuration (s : State) : Host.Outcome State Fault Refusal :=
  respond s s.regs .ok (dataOfTime s.cfg (s.regs.pressedFor s.wires.now))

end Sys2Proof.Machine
end

