-- ==== Sys2Proof/Machine/Edge.lean ====
section
/-! DEFINITION. The sixteen TransitionCodes (spec/30_encoding.md R38): what an EDGE step does when it forms each. The gate
(`life`, then the debounce filter) and the two writes of an accepted sample are shared; the direction and the current
ChannelState are the row's own. -/

namespace Sys2Proof.Machine

/-- An accepted sample: `lastAccepted <- now`, the count of its direction, `prevState <- cur`
(`41_rotary_debounce_filter.md` R54, `44_decoder_top_and_lifecycle.md` R78). -/
def Registers.acceptSample {c : Config} (r : Registers c) (now : BitVec c.tsWidth) (dir : Direction) (cur : ChannelState) :
    Registers c :=
  ((r.writeLastAccepted now).count dir).writePrevState cur

/-- An EDGE step that forms a code of a given direction and current ChannelState (log 9): no effect unless `life` is ACTIVE and
the filter accepts `now` (`44_decoder_top_and_lifecycle.md` R78). -/
def edgeStep (dir : Direction) (cur : ChannelState) (s : State) : Host.Outcome State Fault Refusal :=
  if s.regs.life = .active ∧ filterAccepts s.cfg s.wires.now s.regs.lastAccepted = true then
    .next (s.complete (s.regs.acceptSample s.wires.now dir cur) none)
  else edgeIgnored s

/-- Code `0000`: 00 to 00, NoStep (`40_quadrature_state_machine.md` R50). -/
def execTcNoStep0000 (s : State) : Host.Outcome State Fault Refusal := edgeStep .noStep 0b00 s

/-- Code `0001`: 00 to 01, CounterClockwise (`40_quadrature_state_machine.md` R49). -/
def execTcCcw0001 (s : State) : Host.Outcome State Fault Refusal := edgeStep .counterClockwise 0b01 s

/-- Code `0010`: 00 to 10, NoStep (`40_quadrature_state_machine.md` R50). -/
def execTcNoStep0010 (s : State) : Host.Outcome State Fault Refusal := edgeStep .noStep 0b10 s

/-- Code `0011`: 00 to 11, NoStep (`40_quadrature_state_machine.md` R50). -/
def execTcNoStep0011 (s : State) : Host.Outcome State Fault Refusal := edgeStep .noStep 0b11 s

/-- Code `0100`: 01 to 00, Clockwise (`40_quadrature_state_machine.md` R48). -/
def execTcCw0100 (s : State) : Host.Outcome State Fault Refusal := edgeStep .clockwise 0b00 s

/-- Code `0101`: 01 to 01, NoStep (`40_quadrature_state_machine.md` R50). -/
def execTcNoStep0101 (s : State) : Host.Outcome State Fault Refusal := edgeStep .noStep 0b01 s

/-- Code `0110`: 01 to 10, NoStep (`40_quadrature_state_machine.md` R50). -/
def execTcNoStep0110 (s : State) : Host.Outcome State Fault Refusal := edgeStep .noStep 0b10 s

/-- Code `0111`: 01 to 11, NoStep (`40_quadrature_state_machine.md` R50). -/
def execTcNoStep0111 (s : State) : Host.Outcome State Fault Refusal := edgeStep .noStep 0b11 s

/-- Code `1000`: 10 to 00, NoStep (`40_quadrature_state_machine.md` R50). -/
def execTcNoStep1000 (s : State) : Host.Outcome State Fault Refusal := edgeStep .noStep 0b00 s

/-- Code `1001`: 10 to 01, NoStep (`40_quadrature_state_machine.md` R50). -/
def execTcNoStep1001 (s : State) : Host.Outcome State Fault Refusal := edgeStep .noStep 0b01 s

/-- Code `1010`: 10 to 10, NoStep (`40_quadrature_state_machine.md` R50). -/
def execTcNoStep1010 (s : State) : Host.Outcome State Fault Refusal := edgeStep .noStep 0b10 s

/-- Code `1011`: 10 to 11, Clockwise (`40_quadrature_state_machine.md` R48). -/
def execTcCw1011 (s : State) : Host.Outcome State Fault Refusal := edgeStep .clockwise 0b11 s

/-- Code `1100`: 11 to 00, NoStep (`40_quadrature_state_machine.md` R50). -/
def execTcNoStep1100 (s : State) : Host.Outcome State Fault Refusal := edgeStep .noStep 0b00 s

/-- Code `1101`: 11 to 01, NoStep (`40_quadrature_state_machine.md` R50). -/
def execTcNoStep1101 (s : State) : Host.Outcome State Fault Refusal := edgeStep .noStep 0b01 s

/-- Code `1110`: 11 to 10, CounterClockwise (`40_quadrature_state_machine.md` R49). -/
def execTcCcw1110 (s : State) : Host.Outcome State Fault Refusal := edgeStep .counterClockwise 0b10 s

/-- Code `1111`: 11 to 11, NoStep (`40_quadrature_state_machine.md` R50). -/
def execTcNoStep1111 (s : State) : Host.Outcome State Fault Refusal := edgeStep .noStep 0b11 s

end Sys2Proof.Machine
end

