-- ==== Sys2Proof/Machine/Lifecycle.lean ====
section
/-! DEFINITION. The two commands that change `life` (spec/44_decoder_top_and_lifecycle.md R80, R81, R86). -/

namespace Sys2Proof.Machine

variable {c : Config}

/-- The registers a successful INIT leaves: the quadrature baseline, the button baseline, the time baselines, both flags
clear, ACTIVE. `pos` keeps its value (`44_decoder_top_and_lifecycle.md` R80, decision D12). -/
def Registers.attachAt (r : Registers c) (w : Wires c) : Registers c :=
  let p := w.samplePressed
  let quadrature := (r.writePrevState w.sampleChannels).writeLastAccepted w.now
  let button := (((quadrature.writeBtnRaw p).writeBtnStable p).writeBtnLastChange w.now).writePressStart w.now
  button.clearFlags.writeLife .active

/-- INIT: suppressed unless UNINIT; AttachFailure when the platform refuses; otherwise attach
(`44_decoder_top_and_lifecycle.md` R80, `60_exceptions.md` R87). -/
def execInit (s : State) : Host.Outcome State Fault Refusal :=
  if s.regs.life ≠ .uninit then suppress s
  else if s.wires.attachOk = false then raiseAttachFailure s
  else respond s (s.regs.attachAt s.wires) .ok 0

/-- TEARDOWN: `life <- DETACHED` from every lifecycle state; no other register is written
(`44_decoder_top_and_lifecycle.md` R81). -/
def execTeardown (s : State) : Host.Outcome State Fault Refusal :=
  respond s (s.regs.writeLife .detached) .ok 0

end Sys2Proof.Machine
end

