-- ==== Sys2Proof/Machine/Position.lean ====
section
/-! DEFINITION. The three host commands of the position counter (spec/42_position_counter.md). -/

namespace Sys2Proof.Machine

/-- GET_POSITION: `respond(OK, sext(pos))` in every lifecycle state; no register changes (`42_position_counter.md` R60). -/
def execGetPosition (s : State) : Host.Outcome State Fault Refusal :=
  respond s s.regs .ok (dataOfPosition s.cfg s.regs.pos)

/-- RESET_POSITION: in ACTIVE, `pos <- 0`, which is 0 and not `INIT_POS` (`42_position_counter.md` R61). -/
def execResetPosition (s : State) : Host.Outcome State Fault Refusal :=
  respondWhenActive s (s.regs.writePos 0#s.cfg.cntWidth) 0

/-- SET_POSITION: in ACTIVE, `pos <- v`; every bit pattern is accepted (`42_position_counter.md` R62). -/
def execSetPosition (value : Int) (s : State) : Host.Outcome State Fault Refusal :=
  respondWhenActive s (s.regs.writePos (operandBits s.cfg value)) 0

end Sys2Proof.Machine
end

