-- ==== Sys2Proof/Machine/Reserved.lean ====
section
/-! DEFINITION. The reserved command opcodes (spec/30_encoding.md R44, spec/44_decoder_top_and_lifecycle.md R83): no
register changes, no wire is sampled, `respond(ERR_OPCODE, 0)` in every lifecycle state. -/

namespace Sys2Proof.Machine

/-- A command with a reserved opcode (`44_decoder_top_and_lifecycle.md` R83). -/
def reservedOpcode (s : State) : Host.Outcome State Fault Refusal := respond s s.regs .errOpcode 0

/-- `cmd_op = 0b0000` (`44_decoder_top_and_lifecycle.md` R83). -/
def execReserved0000 (s : State) : Host.Outcome State Fault Refusal := reservedOpcode s

/-- `cmd_op = 0b1011` (`44_decoder_top_and_lifecycle.md` R83). -/
def execReserved1011 (s : State) : Host.Outcome State Fault Refusal := reservedOpcode s

/-- `cmd_op = 0b1100` (`44_decoder_top_and_lifecycle.md` R83). -/
def execReserved1100 (s : State) : Host.Outcome State Fault Refusal := reservedOpcode s

/-- `cmd_op = 0b1101` (`44_decoder_top_and_lifecycle.md` R83). -/
def execReserved1101 (s : State) : Host.Outcome State Fault Refusal := reservedOpcode s

/-- `cmd_op = 0b1110` (`44_decoder_top_and_lifecycle.md` R83). -/
def execReserved1110 (s : State) : Host.Outcome State Fault Refusal := reservedOpcode s

/-- `cmd_op = 0b1111` (`44_decoder_top_and_lifecycle.md` R83). -/
def execReserved1111 (s : State) : Host.Outcome State Fault Refusal := reservedOpcode s

end Sys2Proof.Machine
end

