-- ==== Sys2Proof/Machine/Dispatch.lean ====
section
/-! DEFINITION. The meaning of every instruction, one arm each. -/

namespace Sys2Proof.Machine

/-- What an instruction does in a state (`44_decoder_top_and_lifecycle.md` R76). -/
def exec (i : Instr) (s : State) : Host.Outcome State Fault Refusal :=
  match i with
  | .tcNoStep0000 => Sys2Proof.Machine.execTcNoStep0000 s
  | .tcCcw0001 => Sys2Proof.Machine.execTcCcw0001 s
  | .tcNoStep0010 => Sys2Proof.Machine.execTcNoStep0010 s
  | .tcNoStep0011 => Sys2Proof.Machine.execTcNoStep0011 s
  | .tcCw0100 => Sys2Proof.Machine.execTcCw0100 s
  | .tcNoStep0101 => Sys2Proof.Machine.execTcNoStep0101 s
  | .tcNoStep0110 => Sys2Proof.Machine.execTcNoStep0110 s
  | .tcNoStep0111 => Sys2Proof.Machine.execTcNoStep0111 s
  | .tcNoStep1000 => Sys2Proof.Machine.execTcNoStep1000 s
  | .tcNoStep1001 => Sys2Proof.Machine.execTcNoStep1001 s
  | .tcNoStep1010 => Sys2Proof.Machine.execTcNoStep1010 s
  | .tcCw1011 => Sys2Proof.Machine.execTcCw1011 s
  | .tcNoStep1100 => Sys2Proof.Machine.execTcNoStep1100 s
  | .tcNoStep1101 => Sys2Proof.Machine.execTcNoStep1101 s
  | .tcCcw1110 => Sys2Proof.Machine.execTcCcw1110 s
  | .tcNoStep1111 => Sys2Proof.Machine.execTcNoStep1111 s
  | .reserved0000 => Sys2Proof.Machine.execReserved0000 s
  | .init => Sys2Proof.Machine.execInit s
  | .update => Sys2Proof.Machine.execUpdate s
  | .getPosition => Sys2Proof.Machine.execGetPosition s
  | .resetPosition => Sys2Proof.Machine.execResetPosition s
  | .setPosition value => Sys2Proof.Machine.execSetPosition value s
  | .isPressed => Sys2Proof.Machine.execIsPressed s
  | .wasPressed => Sys2Proof.Machine.execWasPressed s
  | .wasReleased => Sys2Proof.Machine.execWasReleased s
  | .getPressedDuration => Sys2Proof.Machine.execGetPressedDuration s
  | .teardown => Sys2Proof.Machine.execTeardown s
  | .reserved1011 => Sys2Proof.Machine.execReserved1011 s
  | .reserved1100 => Sys2Proof.Machine.execReserved1100 s
  | .reserved1101 => Sys2Proof.Machine.execReserved1101 s
  | .reserved1110 => Sys2Proof.Machine.execReserved1110 s
  | .reserved1111 => Sys2Proof.Machine.execReserved1111 s

end Sys2Proof.Machine
end

