-- ==== Sys2Proof/Machine/Agents.lean ====
section
/-! DEFINITION. Which step happens next and what it runs: the environment's next stimulus, the instruction it selects, and
placing a stimulus from outside (spec/00_scope.md R8, spec/44_decoder_top_and_lifecycle.md R76, R79). The block holds no
queue and no pending latch; the schedule is the environment's order of steps. -/

namespace Sys2Proof.Machine

/-- The state in which a stimulus is served: the wires carry what its step reads, the rest of the order remains. -/
def State.serving (s : State) (x : Stimulus s.cfg) (rest : List (Stimulus s.cfg)) : State :=
  { s with wires := x.wires, schedule := rest }

/-- The instruction of an EDGE step: the row of the code formed from `prevState` and the sample of this step
(`30_encoding.md` R37, `44_decoder_top_and_lifecycle.md` R78; log 10). -/
def State.edgeInstr (s : State) : Instr := decodeCode (transitionCode s.regs.prevState s.wires.sampleChannels)

/-- One step of one agent (`00_scope.md` R8): the edge agent's EDGE step, the host agent's command step, or hardware
reset from outside. -/
def serve (s : State) (x : Stimulus s.cfg) (rest : List (Stimulus s.cfg)) : Host.Outcome State Fault Refusal :=
  match x.event with
  | .edge => exec (s.serving x rest).edgeInstr (s.serving x rest)
  | .command op arg => exec (decodeCommand op arg) (s.serving x rest)
  | .hardwareReset => .next (s.serving x rest).hardwareReset

/-- The next step in the total order. With none left the block holds its registers (`60_exceptions.md` R98; log 13). -/
def serveNext (s : State) : Host.Outcome State Fault Refusal :=
  match s.schedule with
  | [] => .next s
  | x :: rest => serve s x rest

/-- A stimulus made the very next step of the order. -/
def State.present (s : State) (x : Stimulus s.cfg) : State := { s with schedule := x :: s.schedule }

/-- A command presented on the command port, the wires as they are. -/
def State.presentCommand (s : State) (word : Nat) : State :=
  s.present ⟨.command (commandOpcode word) (commandOperand s.cfg.cntWidth word), s.wires⟩

/-- Everything an EDGE step needs to form a given code: `life` ACTIVE, `prevState` the code's upper half, the channels at
its lower half, and a time at which the filter accepts (`30_encoding.md` R37; log 8). -/
def State.presentCode (s : State) (code : TransitionCode) : State :=
  let ready := { s with regs := (s.regs.writeLife .active).writePrevState code.prev }
  ready.present
    ⟨.edge, { s.wires with
      chA := code.cur.getLsbD 1
      chB := code.cur.getLsbD 0
      now := s.regs.lastAccepted + s.cfg.rotInterval }⟩

/-- Placing a table word as the next step. -/
def State.presentWord (s : State) (nbits w : Nat) : State :=
  match tableFormat nbits with
  | .cmd => s.presentCommand (tableBits nbits w)
  | .tc => s.presentCode (BitVec.ofNat 4 (tableBits nbits w))

/-- A level change and a command seen in the same clock period by a clocked implementation: the EDGE step first, the
command second (`44_decoder_top_and_lifecycle.md` R84, decision D16). The other order is a run of the model too. -/
def State.presentTogether (s : State) (op : Opcode) (arg : BitVec s.cfg.cntWidth) (w : Wires s.cfg) : State :=
  { s with schedule := ⟨.edge, w⟩ :: ⟨.command op arg, w⟩ :: s.schedule }

end Sys2Proof.Machine
end

