-- ==== Sys2Proof/Machine/Step.lean ====
section
/-! DEFINITION. One step of the machine. -/

namespace Sys2Proof.Machine

/-- One step: the next stimulus of the order is served. A configuration outside the ranges of `00_scope.md` R4 is refused
(`93_implementation_defined.md` U14; log 5). -/
def step (s : State) : Host.Outcome State Fault Refusal :=
  if s.cfg.legal then serveNext s else .refused .illegalConfiguration

/-- The state whose very next step runs the instruction of a table word (log 7, log 8). -/
def State.withFetchWord (s : State) (nbits w : Nat) : State := s.presentWord nbits w

end Sys2Proof.Machine
end

