-- ==== Sys2Proof/Machine/Lines.lean ====
section
/-! DEFINITION. The line form of a step (spec/30_encoding.md R45): what each line writes, the stimulus it stands for, the
text it prints and the reading of a text, and the document's names of the commands (R46). Wires a line does not write are
those it is given. -/

namespace Sys2Proof.Machine

variable {c : Config}

/-- The forms of `30_encoding.md` R45, with the inputs each form writes. -/
inductive StepLine (c : Config) where
  | edge (ab : ChannelState) (t : BitVec c.tsWidth)
  | init (ab : ChannelState) (btn ok : Bool) (t : BitVec c.tsWidth)
  | update (btn : Bool) (t : BitVec c.tsWidth)
  | getPosition
  | resetPosition
  | setPosition (value : Int)
  | isPressed
  | wasPressed
  | wasReleased
  | getPressedDuration (t : BitVec c.tsWidth)
  | teardown
  deriving DecidableEq, Repr

/-- The wires with the channel levels of `ab=<a><b>`. -/
def Wires.withChannels (w : Wires c) (ab : ChannelState) : Wires c :=
  { w with chA := ab.getLsbD 1, chB := ab.getLsbD 0 }

/-- The stimulus a line stands for: a level change, or the opcode of `30_encoding.md` R41 with, for SET_POSITION, its
operand. -/
def StepLine.stimulus (w : Wires c) : StepLine c → Stimulus c
  | .edge ab t => ⟨.edge, { w.withChannels ab with now := t }⟩
  | .init ab btn ok t => ⟨.command 0x1 0, { w.withChannels ab with btn := btn, attachOk := ok, now := t }⟩
  | .update btn t => ⟨.command 0x2 0, { w with btn := btn, now := t }⟩
  | .getPosition => ⟨.command 0x3 0, w⟩
  | .resetPosition => ⟨.command 0x4 0, w⟩
  | .setPosition value => ⟨.command 0x5 (operandBits c value), w⟩
  | .isPressed => ⟨.command 0x6 0, w⟩
  | .wasPressed => ⟨.command 0x7 0, w⟩
  | .wasReleased => ⟨.command 0x8 0, w⟩
  | .getPressedDuration t => ⟨.command 0x9 0, { w with now := t }⟩
  | .teardown => ⟨.command 0xA 0, w⟩

/-- One bit as a digit. -/
def bitText (b : Bool) : String := if b then "1" else "0"

/-- `ab=<a><b>`. -/
def channelsText (ab : ChannelState) : String := "ab=" ++ bitText (ab.getLsbD 1) ++ bitText (ab.getLsbD 0)

/-- `@<t>` in decimal. -/
def timeText (t : BitVec c.tsWidth) : String := "@" ++ toString t.toNat

/-- The line as text (`30_encoding.md` R45), times in decimal. -/
def StepLine.text : StepLine c → String
  | .edge ab t => "EDGE " ++ channelsText ab ++ " " ++ timeText t
  | .init ab btn ok t =>
    "INIT " ++ channelsText ab ++ " btn=" ++ bitText btn ++ " ok=" ++ bitText ok ++ " " ++ timeText t
  | .update btn t => "UPDATE btn=" ++ bitText btn ++ " " ++ timeText t
  | .getPosition => "GET_POSITION"
  | .resetPosition => "RESET_POSITION"
  | .setPosition value => "SET_POSITION " ++ toString value
  | .isPressed => "IS_PRESSED"
  | .wasPressed => "WAS_PRESSED"
  | .wasReleased => "WAS_RELEASED"
  | .getPressedDuration t => "GET_PRESSED_DURATION " ++ timeText t
  | .teardown => "TEARDOWN"

/-- The text of a line before its comment, cut at blanks. -/
def lineTokens (text : String) : List String :=
  let tokens := (text.toList.takeWhile (· != ';')).foldr
    (fun ch acc =>
      match ch == ' ', acc with
      | true, _ => [] :: acc
      | false, t :: ts => (ch :: t) :: ts
      | false, [] => [[ch]])
    [[]]
  (tokens.filter fun t => !t.isEmpty).map String.ofList

/-- The value of a digit in a base, decimal or hexadecimal. -/
def digitValue (base : Nat) (ch : Char) : Option Nat :=
  let n := ch.toNat
  let v := if 48 ≤ n ∧ n ≤ 57 then n - 48 else if 65 ≤ n ∧ n ≤ 70 then n - 55 else if 97 ≤ n ∧ n ≤ 102 then n - 87 else 16
  if v < base then some v else none

/-- A number of at least one digit, most significant digit first. -/
def readNat (base : Nat) (digits : List Char) : Option Nat :=
  if digits.isEmpty then none
  else digits.foldl (fun acc ch => acc.bind fun n => (digitValue base ch).map fun v => n * base + v) (some 0)

/-- One bit. -/
def readBit : List Char → Option Bool
  | ['0'] => some false
  | ['1'] => some true
  | _ => none

/-- `ab=<a><b>`. -/
def readChannels (token : String) : Option ChannelState :=
  match token.toList with
  | ['a', 'b', '=', a, b] => (readBit [a]).bind fun a => (readBit [b]).map fun b => channelState a b
  | _ => none

/-- `btn=<level>`. -/
def readLevel (token : String) : Option Bool :=
  match token.toList with
  | ['b', 't', 'n', '=', level] => readBit [level]
  | _ => none

/-- `ok=<bit>`. -/
def readOk (token : String) : Option Bool :=
  match token.toList with
  | ['o', 'k', '=', bit] => readBit [bit]
  | _ => none

/-- `@<t>`, decimal or `0x` hexadecimal, a value of the time counter. -/
def readTime (c : Config) (token : String) : Option (BitVec c.tsWidth) :=
  let value := match token.toList with
    | '@' :: '0' :: 'x' :: digits => readNat 16 digits
    | '@' :: digits => readNat 10 digits
    | _ => none
  value.bind fun n => if n < 2 ^ c.tsWidth then some (BitVec.ofNat _ n) else none

/-- The operand of SET_POSITION: decimal, signed, in the range of the counter (`30_encoding.md` R42). -/
def readOperand (c : Config) (token : String) : Option Int :=
  let value : Option Int := match token.toList with
    | '-' :: digits => (readNat 10 digits).map fun n => -(n : Int)
    | digits => (readNat 10 digits).map fun n => (n : Int)
  value.bind fun v => if c.operandFits v then some v else none

/-- The step a line writes, none for a text that is no line of R45 (log 23). -/
def StepLine.read (c : Config) (text : String) : Option (StepLine c) :=
  match lineTokens text with
  | ["EDGE", ab, t] => (readChannels ab).bind fun ab => (readTime c t).map fun t => .edge ab t
  | ["INIT", ab, btn, ok, t] =>
    (readChannels ab).bind fun ab => (readLevel btn).bind fun btn => (readOk ok).bind fun ok =>
      (readTime c t).map fun t => .init ab btn ok t
  | ["UPDATE", btn, t] => (readLevel btn).bind fun btn => (readTime c t).map fun t => .update btn t
  | ["GET_POSITION"] => some .getPosition
  | ["RESET_POSITION"] => some .resetPosition
  | ["SET_POSITION", v] => (readOperand c v).map .setPosition
  | ["IS_PRESSED"] => some .isPressed
  | ["WAS_PRESSED"] => some .wasPressed
  | ["WAS_RELEASED"] => some .wasReleased
  | ["GET_PRESSED_DURATION", t] => (readTime c t).map .getPressedDuration
  | ["TEARDOWN"] => some .teardown
  | _ => none

/-- The document's names of a command, as `30_encoding.md` R41 and R46 (ii) give them: synonyms of one opcode. -/
def StepLine.documentNames : StepLine c → List String
  | .edge _ _ => []
  | .init _ _ _ _ => ["init()"]
  | .update _ _ => ["update()", "poll step"]
  | .getPosition => ["get()", "getPosition()"]
  | .resetPosition => ["reset()", "resetPosition()"]
  | .setPosition _ => ["set(value)", "setPosition(int)"]
  | .isPressed => ["isPressed()", "isButtonPressed()"]
  | .wasPressed => ["wasPressed()", "wasButtonPressed()"]
  | .wasReleased => ["wasReleased()"]
  | .getPressedDuration _ => ["getPressedDuration()"]
  | .teardown => ["Teardown operation"]

end Sys2Proof.Machine
end

