-- ==== Sys2Proof/Safety.lean ====
section
/-! DEFINITION. The terms in which claims speak: the invariant, parts of the register file, the registers an EDGE step
leaves as spec/44_decoder_top_and_lifecycle.md R78 writes it, and the sequences of samples that claims about runs range
over. Nothing here is used by the machine. -/

namespace Sys2Proof.Machine

variable {c : Config}

/-- The invariant of the machine: a legal configuration, and before the first successful INIT every register still at its
reset value (`10_state.md` R25, `44_decoder_top_and_lifecycle.md` R82). -/
def State.Inv (s : State) : Prop :=
  s.cfg.legal = true ∧ (s.regs.life = .uninit → s.regs = Registers.reset s.cfg)

/-- `k` steps, stopping at the first refusal: `Host.Core.run` of this machine, over its own state type. -/
def runSteps : Nat → State → Host.Outcome State Fault Refusal
  | 0, s => .next s
  | k + 1, s =>
    match step s with
    | .next t => runSteps k t
    | .fault r => .fault r
    | .refused r => .refused r

/-- A run is safe for `k` steps when none of them stops (`93_implementation_defined.md`: no behaviour is stuck). -/
def State.RunsFor (k : Nat) (s : State) : Prop := ∃ t, runSteps k s = .next t

/-- `r` with the six button registers of `b` (`43_button_edge_detector.md` R66). -/
def Registers.withButton (r b : Registers c) : Registers c :=
  { r with
    btnRaw := b.btnRaw
    btnStable := b.btnStable
    btnLastChange := b.btnLastChange
    pressStart := b.pressStart
    flagPressed := b.flagPressed
    flagReleased := b.flagReleased }

/-- `r` with the two registers of the rotation filter and classifier of `b`. -/
def Registers.withGate (r b : Registers c) : Registers c :=
  { r with prevState := b.prevState, lastAccepted := b.lastAccepted }

/-- `r` with the three registers of the rotary half of `b`: `prevState`, `lastAccepted`, `pos`. -/
def Registers.withRotary (r b : Registers c) : Registers c :=
  { r.withGate b with pos := b.pos }

/-- The state an accepted sample leaves: the sample's time, a counter value and the sampled ChannelState written, no
response driven, nothing else changed (`44_decoder_top_and_lifecycle.md` R78). -/
def State.afterSample (s : State) (pos : BitVec s.cfg.cntWidth) (cur : ChannelState) : State :=
  { s with regs := { s.regs with lastAccepted := s.wires.now, pos := pos, prevState := cur }, rsp := none }

/-- The pseudocode of EDGE (`44_decoder_top_and_lifecycle.md` R78) in one piece: the registers it leaves from `r` when it
samples `w`. The sample is the concatenation of the two levels. -/
def edgeRegisters (r : Registers c) (w : Wires c) : Registers c :=
  let cur : ChannelState := BitVec.ofBool w.chA ++ BitVec.ofBool w.chB
  if r.life ≠ .active then r
  else if w.now - r.lastAccepted < c.rotInterval then r
  else
    { r with
      lastAccepted := w.now
      pos := match classify r.prevState cur with
        | .clockwise => r.pos + 1
        | .counterClockwise => r.pos - 1
        | .noStep => r.pos
      prevState := cur }

/-- A sequence of EDGE steps, each with what it samples. -/
def edges (ws : List (Wires c)) : List (Stimulus c) := ws.map fun w => ⟨.edge, w⟩

/-- A sequence of UPDATE commands, each with what it samples. -/
def updates (ws : List (Wires c)) : List (Stimulus c) := ws.map fun w => ⟨.command 0x2 0, w⟩

/-- The codes a sequence of accepted samples forms, the first against `prev` (`30_encoding.md` R37). -/
def codesFormed (prev : ChannelState) : List (Wires c) → List TransitionCode
  | [] => []
  | w :: ws => transitionCode prev w.sampleChannels :: codesFormed w.sampleChannels ws

/-- Every sample of a sequence passes the filter, the first against `last` (`42_position_counter.md` R65's premise). -/
def allAccepted (last : BitVec c.tsWidth) : List (Wires c) → Prop
  | [] => True
  | w :: ws => c.rotInterval ≤ w.now - last ∧ allAccepted w.now ws

/-- The two Clockwise endpoint codes (`40_quadrature_state_machine.md` R48). -/
def isClockwiseCode (code : TransitionCode) : Bool := code == 0xB#4 || code == 0x4#4

/-- The two CounterClockwise endpoint codes (`40_quadrature_state_machine.md` R49). -/
def isCounterClockwiseCode (code : TransitionCode) : Bool := code == 0xE#4 || code == 0x1#4

/-- No sample of a sequence of polls has been seen stable for the window: the raw state before is `raw`, its stability
window began at `since` (`43_button_edge_detector.md` R73). -/
def neverStable (raw : Bool) (since : BitVec c.tsWidth) : List (Wires c) → Prop
  | [] => True
  | w :: ws =>
    let since' := if (!w.btn) = raw then since else w.now
    w.now - since' < c.btnWindow ∧ neverStable (!w.btn) since' ws

/-- The status of a command by the priority of `60_exceptions.md` R93 (iv): reserved opcode, then lifecycle, then the
attach, then OK. -/
def statusOf (op : Opcode) (life : Lifecycle) (attachOk : Bool) : Status :=
  if op ∈ [0x0#4, 0xB#4, 0xC#4, 0xD#4, 0xE#4, 0xF#4] then .errOpcode
  else if op = 0x1#4 ∧ life ≠ .uninit then .errState
  else if op ∈ [0x2#4, 0x4#4, 0x5#4, 0x7#4, 0x8#4] ∧ life ≠ .active then .errState
  else if op = 0x1#4 ∧ attachOk = false then .errAttach
  else .ok

/-- The values a sequence of steps reads from the time counter agree with a real, non-decreasing time
(`60_exceptions.md` R97). -/
def timesAgree {width : Nat} (nows : List (BitVec width)) : Prop :=
  ∃ times : List Nat, times.Pairwise (· ≤ ·) ∧ times.map (BitVec.ofNat width) = nows

end Sys2Proof.Machine
end

