-- ==== Sys2Proof/Certificates/Slice0/Obligations.lean ====
section
/-! DEFINITION. The statements of the model. Each says which sentence of spec/ it formalises, and where it rests on a
decision of the spec (D<n>, spec/92_eei_decisions.md) or on a choice of the model's (log <n>, notes/assumptions/). A
statement about an instruction gives the whole next state, so that its frame is part of it. -/

open Sys2Proof Sys2Proof.Machine

/-! ### Encoding -/

/-- `30_encoding.md` section 1: no bit of an encoding is dropped. The opcodes are decision D8; the place of the operand
above the opcode and the operand 0 of a command that takes none are the model's (logs 19, 21). -/
def Obligations.DecodeOfEncodeIsTheInstruction : Prop :=
  ∀ (c : Config) (i : Instr), c.legal = true → i.wellFormed c = true →
    decodeWord c (encodeWord c i).1 (encodeWord c i).2 = .instr i

/-- `30_encoding.md` sections 1 to 3: every 4-bit number is one code, and encoding that code gives the number back. Every
command number decodes: a SET_POSITION word comes back, operand included; a word of any other opcode comes back with operand
0, because the command ignores its operand (decision D8, logs 19, 21). -/
def Obligations.EveryWordDecodesAndReencodesWithoutIgnoredOperand : Prop :=
  (∀ (c : Config) (word : Nat), word < 16 →
    ∃ i, decodeWord c .tc word = .instr i ∧ i.wellFormed c = true ∧ encodeWord c i = (.tc, word)) ∧
  (∀ (c : Config) (word : Nat), c.legal = true → word < 2 ^ (4 + c.cntWidth) →
    ∃ i, decodeWord c .cmd word = .instr i ∧ i.wellFormed c = true ∧ (encodeWord c i).1 = .cmd ∧
      (encodeWord c i).2 % 16 = word % 16 ∧ (word % 16 = 5 → (encodeWord c i).2 = word) ∧
      (word % 16 ≠ 5 → (encodeWord c i).2 = word % 16))

/-- A number with a bit above its format's width is no word (`30_encoding.md` section 1; the rejection is the model's,
log 21). -/
def Obligations.TooWideWordsAreRejected : Prop :=
  ∀ (c : Config) (word : Nat),
    (16 ≤ word → decodeWord c .tc word = .rejected .codeTooWide) ∧
    (2 ^ (4 + c.cntWidth) ≤ word → decodeWord c .cmd word = .rejected .commandTooWide)

/-- The words of `30_encoding.md` R38 and R41, written out: six codes, and the ten commands with the operand of
SET_POSITION 42 and SET_POSITION -1 at 32 bits (opcodes: decision D8; operand place: log 21). -/
def Obligations.SpecWordsDecodeToTheirRows : Prop :=
  decodeWord Config.standard .tc 0b1011 = .instr .tcCw1011 ∧
  decodeWord Config.standard .tc 0b0100 = .instr .tcCw0100 ∧
  decodeWord Config.standard .tc 0b1110 = .instr .tcCcw1110 ∧
  decodeWord Config.standard .tc 0b0001 = .instr .tcCcw0001 ∧
  decodeWord Config.standard .tc 0b0000 = .instr .tcNoStep0000 ∧
  decodeWord Config.standard .tc 0b0110 = .instr .tcNoStep0110 ∧
  decodeWord Config.standard .cmd 0x0 = .instr .reserved0000 ∧
  decodeWord Config.standard .cmd 0x1 = .instr .init ∧
  decodeWord Config.standard .cmd 0x2 = .instr .update ∧
  decodeWord Config.standard .cmd 0x3 = .instr .getPosition ∧
  decodeWord Config.standard .cmd 0x4 = .instr .resetPosition ∧
  decodeWord Config.standard .cmd 0x2A5 = .instr (.setPosition 42) ∧
  decodeWord Config.standard .cmd 0xFFFFFFFF5 = .instr (.setPosition (-1)) ∧
  decodeWord Config.standard .cmd 0x6 = .instr .isPressed ∧
  decodeWord Config.standard .cmd 0x7 = .instr .wasPressed ∧
  decodeWord Config.standard .cmd 0x8 = .instr .wasReleased ∧
  decodeWord Config.standard .cmd 0x9 = .instr .getPressedDuration ∧
  decodeWord Config.standard .cmd 0xA = .instr .teardown ∧
  decodeWord Config.standard .cmd 0xF = .instr .reserved1111

/-- `30_encoding.md` R36, R37: channel A is bit 1, channel B bit 0, high is 1 (decision D2); the previous ChannelState is
in bits 3:2 of the code and the current one in bits 1:0. -/
def Obligations.CodeFieldsArePreviousAndCurrent : Prop :=
  (∀ a b : Bool, (channelState a b).getLsbD 1 = a ∧ (channelState a b).getLsbD 0 = b) ∧
  (∀ prev cur : ChannelState, (transitionCode prev cur).extractLsb 3 2 = prev ∧
    (transitionCode prev cur).extractLsb 1 0 = cur ∧ (transitionCode prev cur).toNat = 4 * prev.toNat + cur.toNat)

/-- `30_encoding.md` R39: eight single-bit codes, four of them endpoints, four duplicates, four double-bit codes; the
endpoints are exactly the codes that count (column "kind" of R38, an inference of the spec's from D2). -/
def Obligations.EndpointCodesAreThoseThatCount : Prop :=
  ∀ prev cur : ChannelState,
    ((transitionCode prev cur).kind = .singleBitEndpoint ↔ classify prev cur ≠ .noStep) ∧
    ((transitionCode prev cur).kind = .duplicate ↔ prev = cur) ∧
    ((transitionCode prev cur).kind = .doubleBit ↔ prev ^^^ cur = 0b11) ∧
    ((transitionCode prev cur).kind = .singleBitIntermediate ↔ prev ^^^ cur = 0b10)

/-- `40_quadrature_state_machine.md` section 1: the classifier answers Clockwise on 10 to 11 and 01 to 00,
CounterClockwise on 11 to 10 and 00 to 01, and NoStep on every other pair. -/
def Obligations.ClassifierRecognisesExactlyFourPairs : Prop :=
  ∀ prev cur : ChannelState,
    (classify prev cur = .clockwise ↔ (prev = 0b10 ∧ cur = 0b11) ∨ (prev = 0b01 ∧ cur = 0b00)) ∧
    (classify prev cur = .counterClockwise ↔ (prev = 0b11 ∧ cur = 0b10) ∨ (prev = 0b00 ∧ cur = 0b01))

/-- `40_quadrature_state_machine.md` section 3 (iii), an inference of the spec's: with the channel wires exchanged, the
four endpoint pairs are NoStep, and reversing a pair reverses its direction. -/
def Obligations.ExchangedWiresMoveTheEndpoints : Prop :=
  (∀ a b d e : Bool, classify (channelState a b) (channelState d e) ≠ .noStep →
    classify (channelState b a) (channelState e d) = .noStep) ∧
  (∀ prev cur : ChannelState, classify prev cur = .clockwise ↔ classify cur prev = .counterClockwise)

/-- `30_encoding.md` R45: a line that names a command is presented with the opcode of R41, and an EDGE line with its
sample: the stimulus of each line selects the line's instruction (opcodes: decision D8). -/
def Obligations.LinesSelectTheirInstructions : Prop :=
  ∀ (s : State) (w : Wires s.cfg) (ab : ChannelState) (t : BitVec s.cfg.tsWidth) (x y : Bool)
    (rest : List (Stimulus s.cfg)),
    (∀ l i, (l, i) ∈ [(StepLine.init ab x y t, Instr.init), (.update x t, .update), (.getPosition, .getPosition),
        (.resetPosition, .resetPosition), (.isPressed, .isPressed), (.wasPressed, .wasPressed),
        (.wasReleased, .wasReleased), (.getPressedDuration t, .getPressedDuration), (.teardown, .teardown)] →
      serve s (l.stimulus w) rest = exec i (s.serving (l.stimulus w) rest)) ∧
    (∀ value : Int, (Instr.setPosition value).wellFormed s.cfg = true → s.cfg.legal = true →
      serve s (StepLine.stimulus w (.setPosition value)) rest =
        exec (.setPosition value) (s.serving (StepLine.stimulus w (.setPosition value)) rest)) ∧
    serve s (StepLine.stimulus w (.edge ab t)) rest =
      exec (decodeCode (transitionCode s.regs.prevState ab)) (s.serving (StepLine.stimulus w (.edge ab t)) rest)

/-! ### The step -/

/-- `00_scope.md` R8, `44_decoder_top_and_lifecycle.md` R76: a step serves the next stimulus of the order with the inputs
of that stimulus: a command step is `exec` of the command's instruction, an EDGE step is `exec` of the code formed from
`prevState` and the sample. With no stimulus left the block holds its registers (log 13). -/
def Obligations.StepRunsTheSelectedInstruction : Prop :=
  ∀ (s : State) (w : Wires s.cfg) (rest : List (Stimulus s.cfg)), s.cfg.legal = true →
    (∀ op arg, s.schedule = ⟨.command op arg, w⟩ :: rest →
      step s = exec (decodeCommand op arg) { s with wires := w, schedule := rest }) ∧
    (s.schedule = ⟨.edge, w⟩ :: rest →
      step s = exec (decodeCode (transitionCode s.regs.prevState (channelState w.chA w.chB)))
        { s with wires := w, schedule := rest }) ∧
    (s.schedule = [] → step s = .next s)

/-- The word a program is loaded by (logs 7, 8): for a command word of a default configuration the very next step is
`exec` of the instruction the decoder reads, in a state that differs from the given one in nothing; for a 4-bit code it is
`exec` of that code's row with the edge path ready for it. -/
def Obligations.FetchedWordRunsItsInstruction : Prop :=
  ∀ (r : Registers Config.standard) (w : Wires Config.standard) (q : List (Stimulus Config.standard))
    (p : Option (Response Config.standard)) (word : Nat),
    (word < 2 ^ 36 → ∃ i, decodeTableWord 36 word = some i ∧
      step (State.withFetchWord ⟨Config.standard, r, w, q, p⟩ 36 word) = exec i ⟨Config.standard, r, w, q, p⟩) ∧
    (word < 2 ^ 4 → ∃ i w', decodeTableWord 4 word = some i ∧ w'.now - r.lastAccepted = Config.standard.rotInterval ∧
      step (State.withFetchWord ⟨Config.standard, r, w, q, p⟩ 4 word) =
        exec i ⟨Config.standard, { r with life := .active, prevState := BitVec.ofNat 2 (word / 4) }, w', q, p⟩)

/-- `20_memory.md` section 4, `60_exceptions.md` section 1, `95_test_vectors.md` part 4 (1): every step from a legal
configuration yields a next state, exactly the commands drive a response, and the parameters stay. -/
def Obligations.EveryStepCompletes : Prop :=
  ∀ (s : State) (x : Stimulus s.cfg) (rest : List (Stimulus s.cfg)), s.cfg.legal = true → s.schedule = x :: rest →
    ∃ r p, step s = .next { s with regs := r, wires := x.wires, schedule := rest, rsp := p } ∧
      (p.isSome = true ↔ ∃ op arg, x.event = .command op arg)

/-- `93_implementation_defined.md` U14: a configuration outside the ranges of the parameters is refused (log 5). -/
def Obligations.IllegalConfigurationIsRefused : Prop :=
  ∀ s : State, s.cfg.cntWidth < 2 ∨ s.cfg.tsWidth < 1 → step s = .refused .illegalConfiguration

/-- `00_scope.md` section 4, `10_state.md` section 4: the parameters never change after construction, in any run. -/
def Obligations.ParametersNeverChange : Prop :=
  ∀ (k : Nat) (s t : State), runSteps k s = .next t → t.cfg = s.cfg

/-- `70_reset_and_hazards.md` section 1, `10_state.md` section 9: hardware reset puts `pos` at `INIT_POS` and `life` at
UNINIT from any state, and the other registers at zero (decision D13); wires and order are not the block's (log 12). -/
def Obligations.HardwareResetSetsEveryRegister : Prop :=
  ∀ (s : State) (w : Wires s.cfg) (rest : List (Stimulus s.cfg)), s.cfg.legal = true →
    s.schedule = ⟨.hardwareReset, w⟩ :: rest →
    step s = .next { s with
      regs := { life := .uninit, prevState := 0, lastAccepted := 0, pos := s.cfg.initPos, btnRaw := false,
                btnStable := false, btnLastChange := 0, pressStart := 0, flagPressed := false, flagReleased := false }
      wires := w, schedule := rest, rsp := none }

/-- `10_state.md` section 9 with the defaults of `00_scope.md` section 4: the state the machine starts in (decision D13
for the registers other than `pos`; the quiet wires and empty order are the model's, logs 2 and 8, and not stated). -/
def Obligations.ResetStateHoldsTheSpecValues : Prop :=
  State.reset.regs.life.bits = 0b00 ∧ State.reset.regs.pos.toInt = 0 ∧ State.reset.regs.prevState = 0b00 ∧
  State.reset.regs.lastAccepted.toNat = 0 ∧ State.reset.regs.btnRaw = false ∧ State.reset.regs.btnStable = false ∧
  State.reset.regs.btnLastChange.toNat = 0 ∧ State.reset.regs.pressStart.toNat = 0 ∧
  State.reset.regs.flagPressed = false ∧ State.reset.regs.flagReleased = false ∧
  State.reset.cfg.cntWidth = 32 ∧ State.reset.cfg.tsWidth = 32 ∧ State.reset.cfg.rotInterval.toNat = 1000 ∧
  State.reset.cfg.btnWindow.toNat = 50000 ∧ State.reset.cfg.ticksPerMs = 1000 ∧ State.reset.cfg.initPos.toInt = 0

/-- The invariant holds of the machine constructed with any legal parameters. -/
def Obligations.InvariantHoldsAtReset : Prop :=
  (∀ c : Config, c.legal = true → (State.constructed c).Inv) ∧ State.reset.Inv

/-- `10_state.md` section 9, `44_decoder_top_and_lifecycle.md` section 6: every step keeps the invariant: the
configuration stays legal, and until the first successful INIT every register is at its reset value. -/
def Obligations.EveryStepKeepsTheInvariant : Prop :=
  ∀ s t : State, s.Inv → step s = .next t → t.Inv

/-! ### The edge path -/

/-- `40_quadrature_state_machine.md` R48: 10 to 11 is code `0xB`, 01 to 00 is code `0x4`; both classify as Clockwise, and
the EDGE step that forms one of them and accepts its sample performs INC on `pos`; no flag is written. -/
def Obligations.ClockwiseCodesIncrement : Prop :=
  transitionCode 0b10 0b11 = 0xB ∧ transitionCode 0b01 0b00 = 0x4 ∧ decodeCode 0xB = .tcCw1011 ∧
  decodeCode 0x4 = .tcCw0100 ∧ classify 0b10 0b11 = .clockwise ∧ classify 0b01 0b00 = .clockwise ∧
  ∀ s : State, s.regs.life = .active → s.cfg.rotInterval ≤ s.wires.now - s.regs.lastAccepted →
    (∃ r, exec .tcCw1011 s = .next { s with regs := r, rsp := none } ∧ r.pos = s.regs.pos + 1 ∧
      r.flagPressed = s.regs.flagPressed ∧ r.flagReleased = s.regs.flagReleased) ∧
    (∃ r, exec .tcCw0100 s = .next { s with regs := r, rsp := none } ∧ r.pos = s.regs.pos + 1 ∧
      r.flagPressed = s.regs.flagPressed ∧ r.flagReleased = s.regs.flagReleased)

/-- `40_quadrature_state_machine.md` R49: 11 to 10 is code `0xE`, 00 to 01 is code `0x1`; both classify as
CounterClockwise, and the EDGE step that forms one of them and accepts its sample performs DEC on `pos`; no flag is
written. -/
def Obligations.CounterClockwiseCodesDecrement : Prop :=
  transitionCode 0b11 0b10 = 0xE ∧ transitionCode 0b00 0b01 = 0x1 ∧ decodeCode 0xE = .tcCcw1110 ∧
  decodeCode 0x1 = .tcCcw0001 ∧ classify 0b11 0b10 = .counterClockwise ∧ classify 0b00 0b01 = .counterClockwise ∧
  ∀ s : State, s.regs.life = .active → s.cfg.rotInterval ≤ s.wires.now - s.regs.lastAccepted →
    (∃ r, exec .tcCcw1110 s = .next { s with regs := r, rsp := none } ∧ r.pos = s.regs.pos - 1 ∧
      r.flagPressed = s.regs.flagPressed ∧ r.flagReleased = s.regs.flagReleased) ∧
    (∃ r, exec .tcCcw0001 s = .next { s with regs := r, rsp := none } ∧ r.pos = s.regs.pos - 1 ∧
      r.flagPressed = s.regs.flagPressed ∧ r.flagReleased = s.regs.flagReleased)

/-- The whole effect of the four counting rows on an accepted sample (`44_decoder_top_and_lifecycle.md` section 3):
`lastAccepted` takes the time, `pos` counts, `prevState` takes the sampled state (decision D7), nothing else changes and
no response is driven. -/
def Obligations.CountingRowsWriteThreeRegisters : Prop :=
  ∀ s : State, s.regs.life = .active → s.cfg.rotInterval ≤ s.wires.now - s.regs.lastAccepted →
    exec .tcCw1011 s = .next (s.afterSample (s.regs.pos + 1) 0b11) ∧
    exec .tcCw0100 s = .next (s.afterSample (s.regs.pos + 1) 0b00) ∧
    exec .tcCcw1110 s = .next (s.afterSample (s.regs.pos - 1) 0b10) ∧
    exec .tcCcw0001 s = .next (s.afterSample (s.regs.pos - 1) 0b01)

/-- The whole effect of the twelve NoStep rows on an accepted sample (`40_quadrature_state_machine.md` section 2,
`44_decoder_top_and_lifecycle.md` section 3): `pos` keeps its value; `lastAccepted` and `prevState` are still written
(decision D7); nothing else changes, and there is no diagnostic (decision D20). -/
def Obligations.NoStepRowsOnlyRecordTheSample : Prop :=
  ∀ s : State, s.regs.life = .active → s.cfg.rotInterval ≤ s.wires.now - s.regs.lastAccepted →
    exec .tcNoStep0000 s = .next (s.afterSample s.regs.pos 0b00) ∧
    exec .tcNoStep0010 s = .next (s.afterSample s.regs.pos 0b10) ∧
    exec .tcNoStep0011 s = .next (s.afterSample s.regs.pos 0b11) ∧
    exec .tcNoStep0101 s = .next (s.afterSample s.regs.pos 0b01) ∧
    exec .tcNoStep0110 s = .next (s.afterSample s.regs.pos 0b10) ∧
    exec .tcNoStep0111 s = .next (s.afterSample s.regs.pos 0b11) ∧
    exec .tcNoStep1000 s = .next (s.afterSample s.regs.pos 0b00) ∧
    exec .tcNoStep1001 s = .next (s.afterSample s.regs.pos 0b01) ∧
    exec .tcNoStep1010 s = .next (s.afterSample s.regs.pos 0b10) ∧
    exec .tcNoStep1100 s = .next (s.afterSample s.regs.pos 0b00) ∧
    exec .tcNoStep1101 s = .next (s.afterSample s.regs.pos 0b01) ∧
    exec .tcNoStep1111 s = .next (s.afterSample s.regs.pos 0b11)

/-- `44_decoder_top_and_lifecycle.md` sections 3 and 6, `41_rotary_debounce_filter.md` R54: a row of the TransitionCode map
has no effect at all while the edge path is not attached (decision D11) or when the sample comes less than `ROT_INTERVAL`
after the last accepted one (decision D6 for `prevState`). -/
def Obligations.DetachedOrEarlySamplesChangeNothing : Prop :=
  ∀ (i : Instr) (s : State), i.format = .tc →
    s.regs.life ≠ .active ∨ s.wires.now - s.regs.lastAccepted < s.cfg.rotInterval →
    exec i s = .next { s with rsp := none }

/-- `44_decoder_top_and_lifecycle.md` section 3: the step of a level change, which forms a code and runs its row, leaves
the registers that the pseudocode of EDGE leaves (gate, classify, count, record; decisions D2, D6, D7). The sixteen rows
and the classifier are written apart in the model; this says they agree. -/
def Obligations.EdgeStepIsThePseudocode : Prop :=
  ∀ (s : State) (w : Wires s.cfg) (rest : List (Stimulus s.cfg)), s.cfg.legal = true →
    s.schedule = ⟨.edge, w⟩ :: rest →
    step s = .next { s with regs := edgeRegisters s.regs w, wires := w, schedule := rest, rsp := none }

/-- `41_rotary_debounce_filter.md` sections on arithmetic, `70_reset_and_hazards.md` section 3: of two real times the
filter sees their difference modulo `2^TS_WIDTH`, so that a wrap of the counter does not matter and an interval beyond one
period is aliased. -/
def Obligations.FilterMeasuresElapsedTimeModuloThePeriod : Prop :=
  ∀ (c : Config) (last now : Nat), last ≤ now →
    (filterAccepts c (BitVec.ofNat c.tsWidth now) (BitVec.ofNat c.tsWidth last) = true ↔
      c.rotInterval.toNat ≤ (now - last) % 2 ^ c.tsWidth)

/-- `42_position_counter.md` section 3: the counter as a signed integer: INC adds one and DEC subtracts one, except that
they wrap at the two extreme values (decisions D3, D4). -/
def Obligations.CounterWrapsAtTheExtremes : Prop :=
  ∀ (c : Config) (r : Registers c), c.legal = true →
    (r.pos.toInt < 2 ^ (c.cntWidth - 1) - 1 → r.inc.pos.toInt = r.pos.toInt + 1) ∧
    (r.pos.toInt = 2 ^ (c.cntWidth - 1) - 1 → r.inc.pos.toInt = -2 ^ (c.cntWidth - 1)) ∧
    (-2 ^ (c.cntWidth - 1) < r.pos.toInt → r.dec.pos.toInt = r.pos.toInt - 1) ∧
    (r.pos.toInt = -2 ^ (c.cntWidth - 1) → r.dec.pos.toInt = 2 ^ (c.cntWidth - 1) - 1)

/-- `42_position_counter.md` section 3 (direction fidelity): over a sequence of EDGE steps whose samples are all accepted,
`pos` moves by the number of Clockwise codes formed less the number of CounterClockwise codes; so `N` Clockwise codes and
no other endpoint give plus `N`, and symmetrically minus `N`. The codes are formed from consecutive samples (D2, D7). -/
def Obligations.AcceptedRotationIsCountedExactly : Prop :=
  ∀ (s : State) (ws : List (Wires s.cfg)) (rest : List (Stimulus s.cfg)), s.cfg.legal = true →
    s.regs.life = .active → s.schedule = edges ws ++ rest → allAccepted s.regs.lastAccepted ws →
    ∃ r w p, runSteps ws.length s =
        .next { s with regs := r, wires := w, schedule := rest, rsp := p } ∧
      r.pos = s.regs.pos + BitVec.ofNat _ ((codesFormed s.regs.prevState ws).countP isClockwiseCode)
        - BitVec.ofNat _ ((codesFormed s.regs.prevState ws).countP isCounterClockwiseCode)

/-- `40_quadrature_state_machine.md` section 3 (i), an inference of the spec's: a full cycle from 00 through 10, 11 and 01
with every sample accepted counts two, and the opposite cycle minus two. -/
def Obligations.FullCycleCountsTwo : Prop :=
  ∀ (s : State) (w1 w2 w3 w4 : Wires s.cfg), s.cfg.legal = true → s.regs.life = .active → s.regs.prevState = 0b00 →
    s.schedule = edges [w1, w2, w3, w4] → allAccepted s.regs.lastAccepted [w1, w2, w3, w4] →
    (w1.sampleChannels = 0b10 → w2.sampleChannels = 0b11 → w3.sampleChannels = 0b01 → w4.sampleChannels = 0b00 →
      ∃ r w, runSteps 4 s = .next { s with regs := r, wires := w, schedule := [], rsp := none } ∧
        r.pos = s.regs.pos + 2 ∧ r.prevState = 0b00) ∧
    (w1.sampleChannels = 0b01 → w2.sampleChannels = 0b11 → w3.sampleChannels = 0b10 → w4.sampleChannels = 0b00 →
      ∃ r w, runSteps 4 s = .next { s with regs := r, wires := w, schedule := [], rsp := none } ∧
        r.pos = s.regs.pos - 2 ∧ r.prevState = 0b00)

/-- `41_rotary_debounce_filter.md` section on failure semantics (bounce rejection): after an accepted sample, any number
of EDGE steps less than `ROT_INTERVAL` after it leave every register as the accepted sample left it, so a burst counts at
most once (decision D6 for `prevState`). -/
def Obligations.BurstCountsAtMostOnce : Prop :=
  ∀ (s : State) (w : Wires s.cfg) (ws : List (Wires s.cfg)) (rest : List (Stimulus s.cfg)), s.cfg.legal = true →
    s.regs.life = .active → s.cfg.rotInterval ≤ w.now - s.regs.lastAccepted →
    s.schedule = ⟨.edge, w⟩ :: (edges ws ++ rest) → (∀ v ∈ ws, v.now - w.now < s.cfg.rotInterval) →
    ∃ r v, step s = .next { s with regs := r, wires := w, schedule := edges ws ++ rest, rsp := none } ∧
      runSteps (ws.length + 1) s =
        .next { s with regs := r, wires := v, schedule := rest, rsp := none } ∧
      (r.pos = s.regs.pos ∨ r.pos = s.regs.pos + 1 ∨ r.pos = s.regs.pos - 1)

/-! ### The position commands -/

/-- `42_position_counter.md` R60: GET_POSITION, opcode `0x3`, responds OK with the sign-extended counter in every lifecycle
state and changes no register; before any INIT the value is `INIT_POS`. -/
def Obligations.GetPositionReturnsTheCounter : Prop :=
  (∀ (width : Nat) (arg : BitVec width), decodeCommand 0x3 arg = .getPosition) ∧
  ∀ s : State, ∃ d : BitVec s.cfg.rspWidth,
    exec .getPosition s = .next { s with rsp := some { status := .ok, data := d } } ∧ d.toInt = s.regs.pos.toInt ∧
    (s.Inv → s.regs.life = .uninit → d.toInt = s.cfg.initPos.toInt)

/-- `42_position_counter.md` R61: RESET_POSITION, opcode `0x4`: in ACTIVE `pos` becomes 0, nothing else changes, and
GET_POSITION then returns 0; otherwise ERR_STATE and no register changes. -/
def Obligations.ResetPositionZeroesTheCounter : Prop :=
  (∀ (width : Nat) (arg : BitVec width), decodeCommand 0x4 arg = .resetPosition) ∧
  ∀ s : State,
    (s.regs.life = .active →
      exec .resetPosition s =
        .next { s with regs := { s.regs with pos := 0 }, rsp := some { status := .ok, data := 0 } } ∧
      exec .getPosition { s with regs := { s.regs with pos := 0 }, rsp := some { status := .ok, data := 0 } } =
        .next { s with regs := { s.regs with pos := 0 }, rsp := some { status := .ok, data := 0 } }) ∧
    (s.regs.life ≠ .active → exec .resetPosition s = .next { s with rsp := some { status := .errState, data := 0 } })

/-- `42_position_counter.md` R62: SET_POSITION, opcode `0x5`: in ACTIVE `pos` takes the operand, every bit pattern of it,
nothing else changes, and GET_POSITION then returns it; otherwise ERR_STATE and no register changes. A count after it
applies to the new value. -/
def Obligations.SetPositionStoresItsOperand : Prop :=
  (∀ (width : Nat) (arg : BitVec width), decodeCommand 0x5 arg = .setPosition arg.toInt) ∧
  ∀ (s : State) (v : BitVec s.cfg.cntWidth),
    (s.regs.life = .active →
      exec (.setPosition v.toInt) s =
        .next { s with regs := { s.regs with pos := v }, rsp := some { status := .ok, data := 0 } } ∧
      (∃ d, exec .getPosition { s with regs := { s.regs with pos := v }, rsp := some { status := .ok, data := 0 } } =
          .next { s with regs := { s.regs with pos := v }, rsp := some { status := .ok, data := d } } ∧
        d.toInt = v.toInt) ∧
      (s.cfg.rotInterval ≤ s.wires.now - s.regs.lastAccepted →
        ∃ r, exec .tcCw1011 { s with regs := { s.regs with pos := v }, rsp := some { status := .ok, data := 0 } } =
          .next { s with regs := r, rsp := none } ∧ r.pos = v + 1)) ∧
    (s.regs.life ≠ .active →
      exec (.setPosition v.toInt) s = .next { s with rsp := some { status := .errState, data := 0 } })

/-- `30_encoding.md` section 4 (i), an inference of the spec's: RESET_POSITION is SET_POSITION 0 in every state. -/
def Obligations.ResetPositionIsSetPositionZero : Prop :=
  ∀ s : State, exec .resetPosition s = exec (.setPosition 0) s

/-- `42_position_counter.md` R64: INC and DEC belong to the edge agent, the three commands to the host: a code selects a
row of the TransitionCode map and an opcode a command. On an EDGE step `pos` changes by exactly one or not at all, and it is
read for that only: with any other counter value the step does the same to every other register and moves `pos` the same. On
a command `pos` changes only by RESET_POSITION (to 0) and SET_POSITION (to the operand). -/
def Obligations.CounterChangesOnlyAsAllowed : Prop :=
  (∀ code : TransitionCode, (decodeCode code).format = .tc) ∧
  (∀ (width : Nat) (op : Opcode) (arg : BitVec width), (decodeCommand op arg).format = .cmd) ∧
  ∀ (s : State) (x : Stimulus s.cfg) (rest : List (Stimulus s.cfg)), s.cfg.legal = true → s.schedule = x :: rest →
    x.event ≠ .hardwareReset →
    ∃ r p, step s = .next { s with regs := r, wires := x.wires, schedule := rest, rsp := p } ∧
      (x.event = .edge →
        (r.pos = s.regs.pos ∨ r.pos = s.regs.pos + 1 ∨ r.pos = s.regs.pos - 1) ∧
        ∀ v, step { s with regs := { s.regs with pos := v } } = .next { s with
          regs := { r with pos := v + (r.pos - s.regs.pos) }, wires := x.wires, schedule := rest, rsp := p }) ∧
      (∀ op arg, x.event = .command op arg → r.pos ≠ s.regs.pos →
        (op = 0x4 ∧ r.pos = 0) ∨ (op = 0x5 ∧ r.pos = arg))

/-! ### The button commands -/

/-- `43_button_edge_detector.md` section 2: UPDATE in ACTIVE: `btnRaw` takes the sample; a changed sample restarts the
window; a sample stable for `BTN_WINDOW` that differs from the debounced state commits it, sets the flag of its sense and,
on a press, records the time (decisions D14, D18). Outside ACTIVE: ERR_STATE and nothing (decision D11). -/
def Obligations.UpdateSamplesAndCommits : Prop :=
  ∀ s : State,
    (s.regs.life = .active →
      let raw : Bool := !s.wires.btn
      let since := if raw = s.regs.btnRaw then s.regs.btnLastChange else s.wires.now
      let commits : Bool := decide (s.cfg.btnWindow ≤ s.wires.now - since) && (raw != s.regs.btnStable)
      exec .update s = .next { s with
        regs := { s.regs with
          btnRaw := raw
          btnLastChange := since
          btnStable := if commits then raw else s.regs.btnStable
          pressStart := if commits && raw then s.wires.now else s.regs.pressStart
          flagPressed := s.regs.flagPressed || (commits && raw)
          flagReleased := s.regs.flagReleased || (commits && !raw) }
        rsp := some { status := .ok, data := 0 } }) ∧
    (s.regs.life ≠ .active → exec .update s = .next { s with rsp := some { status := .errState, data := 0 } })

/-- `43_button_edge_detector.md` R68: IS_PRESSED, opcode `0x6`, responds OK with the debounced state in every lifecycle
state, changes no register and does not sample `btn`; in UNINIT it returns 0. -/
def Obligations.IsPressedReturnsTheDebouncedState : Prop :=
  (∀ (width : Nat) (arg : BitVec width), decodeCommand 0x6 arg = .isPressed) ∧
  ∀ s : State,
    exec .isPressed s =
      .next { s with rsp := some { status := .ok, data := if s.regs.btnStable then 1 else 0 } } ∧
    (s.Inv → s.regs.life = .uninit → exec .isPressed s = .next { s with rsp := some { status := .ok, data := 0 } })

/-- `43_button_edge_detector.md` R69: WAS_PRESSED, opcode `0x7`: in ACTIVE it returns `flagPressed` and clears it, nothing
else changes, so a second WAS_PRESSED returns 0; otherwise ERR_STATE and the flag is kept. -/
def Obligations.WasPressedConsumesItsFlag : Prop :=
  (∀ (width : Nat) (arg : BitVec width), decodeCommand 0x7 arg = .wasPressed) ∧
  ∀ s : State,
    (s.regs.life = .active →
      exec .wasPressed s = .next { s with
        regs := { s.regs with flagPressed := false }
        rsp := some { status := .ok, data := if s.regs.flagPressed then 1 else 0 } }) ∧
    (s.regs.life = .active → s.regs.flagPressed = false →
      exec .wasPressed s = .next { s with rsp := some { status := .ok, data := 0 } }) ∧
    (s.regs.life ≠ .active → exec .wasPressed s = .next { s with rsp := some { status := .errState, data := 0 } })

/-- `43_button_edge_detector.md` section 3: WAS_RELEASED, the same for the "released" flag. That the command exists is
decision D17. -/
def Obligations.WasReleasedConsumesItsFlag : Prop :=
  ∀ s : State,
    (s.regs.life = .active →
      exec .wasReleased s = .next { s with
        regs := { s.regs with flagReleased := false }
        rsp := some { status := .ok, data := if s.regs.flagReleased then 1 else 0 } }) ∧
    (s.regs.life ≠ .active → exec .wasReleased s = .next { s with rsp := some { status := .errState, data := 0 } })

/-- `43_button_edge_detector.md` section 3: GET_PRESSED_DURATION changes no register in any lifecycle state (decision D11)
and returns the ticks since the press (decision D5) while Pressed, 0 while Released. Of real times less than a period
apart it is the time held, so while held it does not decrease. -/
def Obligations.PressedDurationIsTheHoldTime : Prop :=
  ∀ s : State, ∃ d : BitVec s.cfg.rspWidth,
    exec .getPressedDuration s = .next { s with rsp := some { status := .ok, data := d } } ∧
    (s.regs.btnStable = false → d = 0) ∧
    (s.regs.btnStable = true → d.toNat = (s.wires.now - s.regs.pressStart).toNat) ∧
    (∀ pressed now : Nat, pressed ≤ now → now - pressed < 2 ^ s.cfg.tsWidth → s.regs.btnStable = true →
      s.regs.pressStart = BitVec.ofNat _ pressed → s.wires.now = BitVec.ofNat _ now → d.toNat = now - pressed)

/-- `95_test_vectors.md` part 4 (5), `43_button_edge_detector.md` sections 2 to 4: an edge flag rises only in an UPDATE
that commits the state of its sense, and falls only by its own query in ACTIVE, by a successful INIT (decision D12) or by
hardware reset. -/
def Obligations.EdgeFlagsMoveOnlyOnCommitAndQuery : Prop :=
  ∀ (s : State) (x : Stimulus s.cfg) (rest : List (Stimulus s.cfg)), s.cfg.legal = true → s.schedule = x :: rest →
    ∃ r p, step s = .next { s with regs := r, wires := x.wires, schedule := rest, rsp := p } ∧
      (s.regs.flagPressed = false → r.flagPressed = true →
        (∃ arg, x.event = .command 0x2 arg) ∧ s.regs.btnStable = false ∧ r.btnStable = true) ∧
      (s.regs.flagReleased = false → r.flagReleased = true →
        (∃ arg, x.event = .command 0x2 arg) ∧ s.regs.btnStable = true ∧ r.btnStable = false) ∧
      (s.regs.flagPressed = true → r.flagPressed = false →
        (∃ arg, x.event = .command 0x7 arg ∧ s.regs.life = .active) ∨
        (∃ arg, x.event = .command 0x1 arg ∧ s.regs.life = .uninit ∧ x.wires.attachOk = true) ∨
        x.event = .hardwareReset) ∧
      (s.regs.flagReleased = true → r.flagReleased = false →
        (∃ arg, x.event = .command 0x8 arg ∧ s.regs.life = .active) ∨
        (∃ arg, x.event = .command 0x1 arg ∧ s.regs.life = .uninit ∧ x.wires.attachOk = true) ∨
        x.event = .hardwareReset)

/-- `43_button_edge_detector.md` section 4, `70_reset_and_hazards.md` section 3 (the edge queries do not poll): between
two WAS_PRESSED commands with no UPDATE between them, whatever else happens, nothing new is reported: the second returns
0. -/
def Obligations.NoNewPressWithoutUpdate : Prop :=
  ∀ (s : State) (w v : Wires s.cfg) (a b : BitVec s.cfg.cntWidth) (xs rest : List (Stimulus s.cfg)),
    s.cfg.legal = true → s.regs.life = .active →
    s.schedule = ⟨.command 0x7 a, w⟩ :: (xs ++ ⟨.command 0x7 b, v⟩ :: rest) →
    (∀ x ∈ xs, ∀ arg, x.event ≠ .command 0x2 arg) →
    ∃ r p, runSteps (xs.length + 2) s =
        .next { s with regs := r, wires := v, schedule := rest, rsp := some p } ∧ p.data = 0

/-- `43_button_edge_detector.md` section 4 (bounce rejection): a sequence of polls none of which sees its raw state stable
for `BTN_WINDOW` commits nothing: the debounced state, the press time and both flags stay (decision D18). -/
def Obligations.UnstableButtonNeverCommits : Prop :=
  ∀ (s : State) (ws : List (Wires s.cfg)) (rest : List (Stimulus s.cfg)), s.cfg.legal = true →
    s.regs.life = .active → s.schedule = updates ws ++ rest → neverStable s.regs.btnRaw s.regs.btnLastChange ws →
    ∃ raw since w p, runSteps ws.length s =
      .next { s with
        regs := { s.regs with btnRaw := raw, btnLastChange := since }
        wires := w, schedule := rest, rsp := p }

/-- `43_button_edge_detector.md` section 4 (one-shot edges): a press first seen at one poll, seen again at any number of
polls inside the window and then at a poll `BTN_WINDOW` or more after the first, commits exactly then: Pressed, the flag
set, the press time that of the committing poll (decisions D14, D18), the "released" flag as it was. -/
def Obligations.SteadyPressCommitsOnce : Prop :=
  ∀ (s : State) (w v : Wires s.cfg) (ws : List (Wires s.cfg)) (rest : List (Stimulus s.cfg)), s.cfg.legal = true →
    s.regs.life = .active → s.regs.btnStable = false → s.regs.btnRaw = false → 0 < s.cfg.btnWindow →
    s.schedule = updates (w :: (ws ++ [v])) ++ rest → w.btn = false → v.btn = false →
    (∀ u ∈ ws, u.btn = false ∧ u.now - w.now < s.cfg.btnWindow) → s.cfg.btnWindow ≤ v.now - w.now →
    runSteps (ws.length + 2) s = .next { s with
      regs := { s.regs with
        btnRaw := true, btnStable := true, btnLastChange := w.now, pressStart := v.now, flagPressed := true }
      wires := v, schedule := rest, rsp := some { status := .ok, data := 0 } }

/-- `43_button_edge_detector.md` R75: the button block and the rotary block are separate. UPDATE and the four queries
neither read nor write `prevState`, `lastAccepted` and `pos`: with any other values of these they do the same to every
other register and respond the same. The EDGE rows and the position commands neither read nor write a button register. A
level of `btn` reaches no EDGE row, and an EDGE row drives no response: nothing is raised toward the host. -/
def Obligations.ButtonAndRotaryHalvesAreSeparate : Prop :=
  ∀ (s : State) (b : Registers s.cfg),
    (∀ i ∈ [Instr.update, .isPressed, .wasPressed, .wasReleased, .getPressedDuration],
      ∃ r p, exec i s = .next { s with regs := r, rsp := p } ∧
        exec i { s with regs := s.regs.withRotary b } = .next { s with regs := r.withRotary b, rsp := p }) ∧
    (∀ i : Instr, i.format = .tc ∨ i = .getPosition ∨ i = .resetPosition ∨ (∃ value, i = .setPosition value) →
      ∃ r p, exec i s = .next { s with regs := r, rsp := p } ∧
        exec i { s with regs := s.regs.withButton b } = .next { s with regs := r.withButton b, rsp := p } ∧
        (i.format = .tc → p = none ∧ ∀ level, exec i { s with wires := { s.wires with btn := level } } =
          .next { s with regs := r, wires := { s.wires with btn := level }, rsp := p }))

/-! ### Lifecycle, errors, agents -/

/-- `44_decoder_top_and_lifecycle.md` section 4: INIT in UNINIT with the platform's consent takes the baselines, clears the
flags and becomes ACTIVE, and does not write `pos` (decisions D2, D12, D15, D21). -/
def Obligations.InitTakesTheBaselines : Prop :=
  ∀ s : State, s.regs.life = .uninit → s.wires.attachOk = true →
    exec .init s = .next { s with
      regs := { life := .active, prevState := BitVec.ofBool s.wires.chA ++ BitVec.ofBool s.wires.chB,
                lastAccepted := s.wires.now, pos := s.regs.pos, btnRaw := !s.wires.btn, btnStable := !s.wires.btn,
                btnLastChange := s.wires.now, pressStart := s.wires.now, flagPressed := false, flagReleased := false }
      rsp := some { status := .ok, data := 0 } }

/-- `60_exceptions.md` section 1, `44_decoder_top_and_lifecycle.md` section 4: AttachFailure responds ERR_ATTACH and changes
no register, so `life` stays UNINIT; an INIT outside UNINIT responds ERR_STATE, whatever the platform answers, and changes
no register (decisions D9, D10, D15). -/
def Obligations.InitFailureChangesNothing : Prop :=
  ∀ s : State,
    (s.regs.life = .uninit → s.wires.attachOk = false →
      exec .init s = .next { s with rsp := some { status := .errAttach, data := 0 } }) ∧
    (s.regs.life ≠ .uninit → exec .init s = .next { s with rsp := some { status := .errState, data := 0 } })

/-- `44_decoder_top_and_lifecycle.md` section 5: TEARDOWN moves every lifecycle state to DETACHED, responds OK and changes no
other register; a second TEARDOWN changes nothing (decision D10). -/
def Obligations.TeardownOnlyDetaches : Prop :=
  ∀ s : State,
    exec .teardown s =
      .next { s with regs := { s.regs with life := .detached }, rsp := some { status := .ok, data := 0 } } ∧
    (s.regs.life = .detached → exec .teardown s = .next { s with rsp := some { status := .ok, data := 0 } })

/-- `20_memory.md` section 4 (no EDGE step with an effect follows a TEARDOWN, which writes `life` only) and
`44_decoder_top_and_lifecycle.md` sections 5 and 6 (no command does either; decisions D10, D11, log 18): from any state,
after a TEARDOWN, no sequence of steps of either agent, without a hardware reset, changes any register. -/
def Obligations.NothingChangesAfterTeardown : Prop :=
  ∀ (s : State) (w : Wires s.cfg) (arg : BitVec s.cfg.cntWidth) (xs : List (Stimulus s.cfg)), s.cfg.legal = true →
    s.schedule = ⟨.command 0xA arg, w⟩ :: xs → (∀ x ∈ xs, x.event ≠ .hardwareReset) →
    ∀ k, ∃ v q p, runSteps (k + 1) s =
      .next { s with regs := { s.regs with life := .detached }, wires := v, schedule := q, rsp := p }

/-- `44_decoder_top_and_lifecycle.md` section 6: the six reserved opcodes respond ERR_OPCODE with 0 and change no register,
in every lifecycle state (decision D8). -/
def Obligations.ReservedOpcodesChangeNothing : Prop :=
  ∀ s : State,
    exec .reserved0000 s = .next { s with rsp := some { status := .errOpcode, data := 0 } } ∧
    exec .reserved1011 s = .next { s with rsp := some { status := .errOpcode, data := 0 } } ∧
    exec .reserved1100 s = .next { s with rsp := some { status := .errOpcode, data := 0 } } ∧
    exec .reserved1101 s = .next { s with rsp := some { status := .errOpcode, data := 0 } } ∧
    exec .reserved1110 s = .next { s with rsp := some { status := .errOpcode, data := 0 } } ∧
    exec .reserved1111 s = .next { s with rsp := some { status := .errOpcode, data := 0 } }

/-- `44_decoder_top_and_lifecycle.md` section 6 and `60_exceptions.md` section 2 (iv), an inference of the spec's: every
command responds with the status of the gating table: reserved opcode first, then lifecycle, then the attach, then OK
(decisions D8, D9, D11). -/
def Obligations.StatusFollowsThePriority : Prop :=
  ∀ (s : State) (op : Opcode) (arg : BitVec s.cfg.cntWidth) (w : Wires s.cfg) (rest : List (Stimulus s.cfg)),
    s.cfg.legal = true → s.schedule = ⟨.command op arg, w⟩ :: rest →
    ∃ r d, step s = .next { s with
        regs := r, wires := w, schedule := rest
        rsp := some { status := statusOf op s.regs.life w.attachOk, data := d } }

/-- `60_exceptions.md` R90: a command that responds with a status other than OK has changed no register and sampled no
wire: with any other levels on the wires (and the same answer of the platform) it does the same. An EDGE step drives no
response: it has no error path. -/
def Obligations.ErrorsLeaveNoTrace : Prop :=
  ∀ (i : Instr) (s : State), ∃ r p, exec i s = .next { s with regs := r, rsp := p } ∧
    (∀ st d, p = some { status := st, data := d } → st ≠ .ok → r = s.regs ∧
      ∀ w : Wires s.cfg, w.attachOk = s.wires.attachOk →
        exec i { s with wires := w } = .next { s with wires := w, rsp := p }) ∧
    (i.format = .tc → p = none)

/-- `44_decoder_top_and_lifecycle.md` section 6 (an inference of the spec's) and section 7: the complete lifecycle
transitions (decision D10). -/
def Obligations.LifecycleMovesAsTheTableSays : Prop :=
  ∀ (s : State) (x : Stimulus s.cfg) (rest : List (Stimulus s.cfg)), s.cfg.legal = true → s.schedule = x :: rest →
    ∃ r p, step s = .next { s with regs := r, wires := x.wires, schedule := rest, rsp := p } ∧
      (x.event = .hardwareReset → r.life = .uninit) ∧
      (x.event = .edge → r.life = s.regs.life) ∧
      (∀ op arg, x.event = .command op arg →
        (op = 0xA → r.life = .detached) ∧
        (op = 0x1 → s.regs.life = .uninit → x.wires.attachOk = true → r.life = .active) ∧
        (op = 0x1 → s.regs.life ≠ .uninit ∨ x.wires.attachOk = false → r.life = s.regs.life) ∧
        (op ≠ 0xA → op ≠ 0x1 → r.life = s.regs.life))

/-- `95_test_vectors.md` part 4 (7), `44_decoder_top_and_lifecycle.md` section 6: outside ACTIVE no step other than
TEARDOWN, a successful INIT from UNINIT and hardware reset changes any register (decision D11). -/
def Obligations.OnlyLifecycleStepsChangeRegistersOutsideActive : Prop :=
  ∀ (s : State) (x : Stimulus s.cfg) (rest : List (Stimulus s.cfg)), s.cfg.legal = true → s.schedule = x :: rest →
    s.regs.life ≠ .active → x.event ≠ .hardwareReset → (∀ arg, x.event ≠ .command 0xA arg) →
    (∀ arg, x.event = .command 0x1 arg → s.regs.life = .detached ∨ x.wires.attachOk = false) →
    ∃ p, step s = .next { s with wires := x.wires, schedule := rest, rsp := p }

/-- `10_state.md` R22: single designated writer per field. An EDGE step neither reads nor writes a button register, does not
write `life`, and adds one to `pos`, subtracts one or leaves it; a command loads or stores `pos` whole, and no command but an
INIT in UNINIT reads or writes `prevState` or `lastAccepted`. So while ACTIVE each field has one writer, except `pos`. -/
def Obligations.EachRegisterHasOneWriter : Prop :=
  ∀ (s : State) (x : Stimulus s.cfg) (rest : List (Stimulus s.cfg)) (b : Registers s.cfg), s.cfg.legal = true →
    s.schedule = x :: rest →
    ∃ r p, step s = .next { s with regs := r, wires := x.wires, schedule := rest, rsp := p } ∧
      (x.event = .edge →
        r.life = s.regs.life ∧
        (r.pos = s.regs.pos ∨ r.pos = s.regs.pos + 1 ∨ r.pos = s.regs.pos - 1) ∧
        step { s with regs := s.regs.withButton b } =
          .next { s with regs := r.withButton b, wires := x.wires, schedule := rest, rsp := p }) ∧
      (∀ op arg, x.event = .command op arg →
        (r.pos = s.regs.pos ∨ (op = 0x4 ∧ r.pos = 0) ∨ (op = 0x5 ∧ r.pos = arg)) ∧
        (op ≠ 0x1 ∨ s.regs.life ≠ .uninit →
          step { s with regs := s.regs.withGate b } =
            .next { s with regs := r.withGate b, wires := x.wires, schedule := rest, rsp := p }))

/-- `44_decoder_top_and_lifecycle.md` section 7, an inference of the spec's: an EDGE step commutes with UPDATE and the four
button queries: in either order the registers end the same and the command responds the same, given each step's own
inputs. -/
def Obligations.EdgeCommutesWithButtonCommands : Prop :=
  ∀ (s : State) (w v : Wires s.cfg) (op : Opcode) (arg : BitVec s.cfg.cntWidth) (rest : List (Stimulus s.cfg)),
    s.cfg.legal = true → op ∈ [0x2#4, 0x6#4, 0x7#4, 0x8#4, 0x9#4] →
    ∃ r r' p,
      runSteps 2 { s with schedule := ⟨.edge, w⟩ :: ⟨.command op arg, v⟩ :: rest } =
        .next { s with regs := r, wires := v, schedule := rest, rsp := some p } ∧
      runSteps 1 { s with schedule := ⟨.command op arg, v⟩ :: ⟨.edge, w⟩ :: rest } =
        .next { s with regs := r', wires := v, schedule := ⟨.edge, w⟩ :: rest, rsp := some p } ∧
      runSteps 2 { s with schedule := ⟨.command op arg, v⟩ :: ⟨.edge, w⟩ :: rest } =
        .next { s with regs := r, wires := w, schedule := rest, rsp := none }

/-- `44_decoder_top_and_lifecycle.md` section 6, decision D16 (log 17): of a level change and a command in one clock period
the EDGE step is first, whatever the command: the first step leaves the registers of the EDGE step and the command as the
next stimulus. So in ACTIVE SET_POSITION and RESET_POSITION leave the commanded value, GET_POSITION returns the counted one,
and TEARDOWN lets the EDGE step take effect. -/
def Obligations.CoincidingEdgeComesFirst : Prop :=
  ∀ (s : State) (w : Wires s.cfg) (arg : BitVec s.cfg.cntWidth), s.cfg.legal = true →
    (∀ op, step (s.presentTogether op arg w) = .next { s with
      regs := edgeRegisters s.regs w, wires := w, schedule := ⟨.command op arg, w⟩ :: s.schedule, rsp := none }) ∧
    (s.regs.life = .active →
      runSteps 2 (s.presentTogether 0x5 arg w) = .next { s with
        regs := { edgeRegisters s.regs w with pos := arg }, wires := w, rsp := some { status := .ok, data := 0 } } ∧
      runSteps 2 (s.presentTogether 0x4 arg w) = .next { s with
        regs := { edgeRegisters s.regs w with pos := 0 }, wires := w, rsp := some { status := .ok, data := 0 } } ∧
      (∃ d, runSteps 2 (s.presentTogether 0x3 arg w) = .next { s with
          regs := edgeRegisters s.regs w, wires := w, rsp := some { status := .ok, data := d } } ∧
        d.toInt = (edgeRegisters s.regs w).pos.toInt) ∧
      runSteps 2 (s.presentTogether 0xA arg w) = .next { s with
        regs := { edgeRegisters s.regs w with life := .detached }
        wires := w, rsp := some { status := .ok, data := 0 } })

/-- `60_exceptions.md` section 5, `20_memory.md` section 4: from every legal state with any schedule the run of its length
serves the whole schedule and answers a next state, whatever the times of its stimuli. No hypothesis on these times is
needed: they are always what some non-decreasing real time reads as, which is all the contract on `now` asks (log 14). -/
def Obligations.EveryScheduleRunsWhateverItsTimes : Prop :=
  ∀ s : State, s.cfg.legal = true →
    (∃ r w p, runSteps s.schedule.length s =
      .next { s with regs := r, wires := w, schedule := [], rsp := p }) ∧
    timesAgree (s.schedule.map fun x => x.wires.now)

/-- `43_button_edge_detector.md` R66, `95_test_vectors.md` part 4 (3): no step but UPDATE, INIT and hardware reset changes
the debounced state, the raw state, the window start or the press time, and no command but INIT changes `prevState` or
`lastAccepted` (decision D12 for what INIT writes). -/
def Obligations.BaselinesMoveOnlyAsAllowed : Prop :=
  ∀ (s : State) (x : Stimulus s.cfg) (rest : List (Stimulus s.cfg)), s.cfg.legal = true → s.schedule = x :: rest →
    x.event ≠ .hardwareReset → (∀ arg, x.event ≠ .command 0x1 arg) →
    ∃ r p, step s = .next { s with regs := r, wires := x.wires, schedule := rest, rsp := p } ∧
      ((∀ arg, x.event ≠ .command 0x2 arg) → r.btnStable = s.regs.btnStable ∧ r.btnRaw = s.regs.btnRaw ∧
        r.btnLastChange = s.regs.btnLastChange ∧ r.pressStart = s.regs.pressStart) ∧
      (x.event ≠ .edge → r.prevState = s.regs.prevState ∧ r.lastAccepted = s.regs.lastAccepted)

/-- `30_encoding.md` section 3 (decision D9), `10_state.md` section 2 (decision D10): the codes of the four statuses on
`rsp_status`, each of the four values exactly one status, and of the three lifecycle states in `life`; `0b11` is the code of
no lifecycle state, and no two states share a code. -/
def Obligations.StatusAndLifecycleCodes : Prop :=
  Status.ok.bits = 0b00 ∧ Status.errState.bits = 0b01 ∧ Status.errAttach.bits = 0b10 ∧ Status.errOpcode.bits = 0b11 ∧
  (∀ code, ∃! st : Status, st.bits = code) ∧
  Lifecycle.uninit.bits = 0b00 ∧ Lifecycle.active.bits = 0b01 ∧ Lifecycle.detached.bits = 0b10 ∧
  (∀ life : Lifecycle, life.bits ≠ 0b11) ∧ (∀ a b : Lifecycle, a.bits = b.bits → a = b)
end

