-- ==== Sys2Proof/Laws/State.lean ====
section
/-! SUPPORT. One lemma for each field and each named update of the state, true by rfl. -/

namespace Sys2Proof.Machine

variable {c : Config}

section registers
variable (r : Registers c)

@[simp] theorem Registers.writeLife_life (v : Lifecycle) : (r.writeLife v).life = v := rfl
@[simp] theorem Registers.writeLife_prevState (v : Lifecycle) : (r.writeLife v).prevState = r.prevState := rfl
@[simp] theorem Registers.writeLife_lastAccepted (v : Lifecycle) : (r.writeLife v).lastAccepted = r.lastAccepted := rfl
@[simp] theorem Registers.writeLife_pos (v : Lifecycle) : (r.writeLife v).pos = r.pos := rfl
@[simp] theorem Registers.writeLife_btnRaw (v : Lifecycle) : (r.writeLife v).btnRaw = r.btnRaw := rfl
@[simp] theorem Registers.writeLife_btnStable (v : Lifecycle) : (r.writeLife v).btnStable = r.btnStable := rfl
@[simp] theorem Registers.writeLife_btnLastChange (v : Lifecycle) : (r.writeLife v).btnLastChange = r.btnLastChange := rfl
@[simp] theorem Registers.writeLife_pressStart (v : Lifecycle) : (r.writeLife v).pressStart = r.pressStart := rfl
@[simp] theorem Registers.writeLife_flagPressed (v : Lifecycle) : (r.writeLife v).flagPressed = r.flagPressed := rfl
@[simp] theorem Registers.writeLife_flagReleased (v : Lifecycle) : (r.writeLife v).flagReleased = r.flagReleased := rfl

@[simp] theorem Registers.writePrevState_life (v : ChannelState) : (r.writePrevState v).life = r.life := rfl
@[simp] theorem Registers.writePrevState_prevState (v : ChannelState) : (r.writePrevState v).prevState = v := rfl
@[simp] theorem Registers.writePrevState_lastAccepted (v : ChannelState) : (r.writePrevState v).lastAccepted = r.lastAccepted := rfl
@[simp] theorem Registers.writePrevState_pos (v : ChannelState) : (r.writePrevState v).pos = r.pos := rfl
@[simp] theorem Registers.writePrevState_btnRaw (v : ChannelState) : (r.writePrevState v).btnRaw = r.btnRaw := rfl
@[simp] theorem Registers.writePrevState_btnStable (v : ChannelState) : (r.writePrevState v).btnStable = r.btnStable := rfl
@[simp] theorem Registers.writePrevState_btnLastChange (v : ChannelState) : (r.writePrevState v).btnLastChange = r.btnLastChange := rfl
@[simp] theorem Registers.writePrevState_pressStart (v : ChannelState) : (r.writePrevState v).pressStart = r.pressStart := rfl
@[simp] theorem Registers.writePrevState_flagPressed (v : ChannelState) : (r.writePrevState v).flagPressed = r.flagPressed := rfl
@[simp] theorem Registers.writePrevState_flagReleased (v : ChannelState) : (r.writePrevState v).flagReleased = r.flagReleased := rfl

@[simp] theorem Registers.writeLastAccepted_life (v : BitVec c.tsWidth) : (r.writeLastAccepted v).life = r.life := rfl
@[simp] theorem Registers.writeLastAccepted_prevState (v : BitVec c.tsWidth) : (r.writeLastAccepted v).prevState = r.prevState := rfl
@[simp] theorem Registers.writeLastAccepted_lastAccepted (v : BitVec c.tsWidth) : (r.writeLastAccepted v).lastAccepted = v := rfl
@[simp] theorem Registers.writeLastAccepted_pos (v : BitVec c.tsWidth) : (r.writeLastAccepted v).pos = r.pos := rfl
@[simp] theorem Registers.writeLastAccepted_btnRaw (v : BitVec c.tsWidth) : (r.writeLastAccepted v).btnRaw = r.btnRaw := rfl
@[simp] theorem Registers.writeLastAccepted_btnStable (v : BitVec c.tsWidth) : (r.writeLastAccepted v).btnStable = r.btnStable := rfl
@[simp] theorem Registers.writeLastAccepted_btnLastChange (v : BitVec c.tsWidth) : (r.writeLastAccepted v).btnLastChange = r.btnLastChange := rfl
@[simp] theorem Registers.writeLastAccepted_pressStart (v : BitVec c.tsWidth) : (r.writeLastAccepted v).pressStart = r.pressStart := rfl
@[simp] theorem Registers.writeLastAccepted_flagPressed (v : BitVec c.tsWidth) : (r.writeLastAccepted v).flagPressed = r.flagPressed := rfl
@[simp] theorem Registers.writeLastAccepted_flagReleased (v : BitVec c.tsWidth) : (r.writeLastAccepted v).flagReleased = r.flagReleased := rfl

@[simp] theorem Registers.writePos_life (v : BitVec c.cntWidth) : (r.writePos v).life = r.life := rfl
@[simp] theorem Registers.writePos_prevState (v : BitVec c.cntWidth) : (r.writePos v).prevState = r.prevState := rfl
@[simp] theorem Registers.writePos_lastAccepted (v : BitVec c.cntWidth) : (r.writePos v).lastAccepted = r.lastAccepted := rfl
@[simp] theorem Registers.writePos_pos (v : BitVec c.cntWidth) : (r.writePos v).pos = v := rfl
@[simp] theorem Registers.writePos_btnRaw (v : BitVec c.cntWidth) : (r.writePos v).btnRaw = r.btnRaw := rfl
@[simp] theorem Registers.writePos_btnStable (v : BitVec c.cntWidth) : (r.writePos v).btnStable = r.btnStable := rfl
@[simp] theorem Registers.writePos_btnLastChange (v : BitVec c.cntWidth) : (r.writePos v).btnLastChange = r.btnLastChange := rfl
@[simp] theorem Registers.writePos_pressStart (v : BitVec c.cntWidth) : (r.writePos v).pressStart = r.pressStart := rfl
@[simp] theorem Registers.writePos_flagPressed (v : BitVec c.cntWidth) : (r.writePos v).flagPressed = r.flagPressed := rfl
@[simp] theorem Registers.writePos_flagReleased (v : BitVec c.cntWidth) : (r.writePos v).flagReleased = r.flagReleased := rfl

@[simp] theorem Registers.writeBtnRaw_life (v : Bool) : (r.writeBtnRaw v).life = r.life := rfl
@[simp] theorem Registers.writeBtnRaw_prevState (v : Bool) : (r.writeBtnRaw v).prevState = r.prevState := rfl
@[simp] theorem Registers.writeBtnRaw_lastAccepted (v : Bool) : (r.writeBtnRaw v).lastAccepted = r.lastAccepted := rfl
@[simp] theorem Registers.writeBtnRaw_pos (v : Bool) : (r.writeBtnRaw v).pos = r.pos := rfl
@[simp] theorem Registers.writeBtnRaw_btnRaw (v : Bool) : (r.writeBtnRaw v).btnRaw = v := rfl
@[simp] theorem Registers.writeBtnRaw_btnStable (v : Bool) : (r.writeBtnRaw v).btnStable = r.btnStable := rfl
@[simp] theorem Registers.writeBtnRaw_btnLastChange (v : Bool) : (r.writeBtnRaw v).btnLastChange = r.btnLastChange := rfl
@[simp] theorem Registers.writeBtnRaw_pressStart (v : Bool) : (r.writeBtnRaw v).pressStart = r.pressStart := rfl
@[simp] theorem Registers.writeBtnRaw_flagPressed (v : Bool) : (r.writeBtnRaw v).flagPressed = r.flagPressed := rfl
@[simp] theorem Registers.writeBtnRaw_flagReleased (v : Bool) : (r.writeBtnRaw v).flagReleased = r.flagReleased := rfl

@[simp] theorem Registers.writeBtnStable_life (v : Bool) : (r.writeBtnStable v).life = r.life := rfl
@[simp] theorem Registers.writeBtnStable_prevState (v : Bool) : (r.writeBtnStable v).prevState = r.prevState := rfl
@[simp] theorem Registers.writeBtnStable_lastAccepted (v : Bool) : (r.writeBtnStable v).lastAccepted = r.lastAccepted := rfl
@[simp] theorem Registers.writeBtnStable_pos (v : Bool) : (r.writeBtnStable v).pos = r.pos := rfl
@[simp] theorem Registers.writeBtnStable_btnRaw (v : Bool) : (r.writeBtnStable v).btnRaw = r.btnRaw := rfl
@[simp] theorem Registers.writeBtnStable_btnStable (v : Bool) : (r.writeBtnStable v).btnStable = v := rfl
@[simp] theorem Registers.writeBtnStable_btnLastChange (v : Bool) : (r.writeBtnStable v).btnLastChange = r.btnLastChange := rfl
@[simp] theorem Registers.writeBtnStable_pressStart (v : Bool) : (r.writeBtnStable v).pressStart = r.pressStart := rfl
@[simp] theorem Registers.writeBtnStable_flagPressed (v : Bool) : (r.writeBtnStable v).flagPressed = r.flagPressed := rfl
@[simp] theorem Registers.writeBtnStable_flagReleased (v : Bool) : (r.writeBtnStable v).flagReleased = r.flagReleased := rfl

@[simp] theorem Registers.writeBtnLastChange_life (v : BitVec c.tsWidth) : (r.writeBtnLastChange v).life = r.life := rfl
@[simp] theorem Registers.writeBtnLastChange_prevState (v : BitVec c.tsWidth) : (r.writeBtnLastChange v).prevState = r.prevState := rfl
@[simp] theorem Registers.writeBtnLastChange_lastAccepted (v : BitVec c.tsWidth) : (r.writeBtnLastChange v).lastAccepted = r.lastAccepted := rfl
@[simp] theorem Registers.writeBtnLastChange_pos (v : BitVec c.tsWidth) : (r.writeBtnLastChange v).pos = r.pos := rfl
@[simp] theorem Registers.writeBtnLastChange_btnRaw (v : BitVec c.tsWidth) : (r.writeBtnLastChange v).btnRaw = r.btnRaw := rfl
@[simp] theorem Registers.writeBtnLastChange_btnStable (v : BitVec c.tsWidth) : (r.writeBtnLastChange v).btnStable = r.btnStable := rfl
@[simp] theorem Registers.writeBtnLastChange_btnLastChange (v : BitVec c.tsWidth) : (r.writeBtnLastChange v).btnLastChange = v := rfl
@[simp] theorem Registers.writeBtnLastChange_pressStart (v : BitVec c.tsWidth) : (r.writeBtnLastChange v).pressStart = r.pressStart := rfl
@[simp] theorem Registers.writeBtnLastChange_flagPressed (v : BitVec c.tsWidth) : (r.writeBtnLastChange v).flagPressed = r.flagPressed := rfl
@[simp] theorem Registers.writeBtnLastChange_flagReleased (v : BitVec c.tsWidth) : (r.writeBtnLastChange v).flagReleased = r.flagReleased := rfl

@[simp] theorem Registers.writePressStart_life (v : BitVec c.tsWidth) : (r.writePressStart v).life = r.life := rfl
@[simp] theorem Registers.writePressStart_prevState (v : BitVec c.tsWidth) : (r.writePressStart v).prevState = r.prevState := rfl
@[simp] theorem Registers.writePressStart_lastAccepted (v : BitVec c.tsWidth) : (r.writePressStart v).lastAccepted = r.lastAccepted := rfl
@[simp] theorem Registers.writePressStart_pos (v : BitVec c.tsWidth) : (r.writePressStart v).pos = r.pos := rfl
@[simp] theorem Registers.writePressStart_btnRaw (v : BitVec c.tsWidth) : (r.writePressStart v).btnRaw = r.btnRaw := rfl
@[simp] theorem Registers.writePressStart_btnStable (v : BitVec c.tsWidth) : (r.writePressStart v).btnStable = r.btnStable := rfl
@[simp] theorem Registers.writePressStart_btnLastChange (v : BitVec c.tsWidth) : (r.writePressStart v).btnLastChange = r.btnLastChange := rfl
@[simp] theorem Registers.writePressStart_pressStart (v : BitVec c.tsWidth) : (r.writePressStart v).pressStart = v := rfl
@[simp] theorem Registers.writePressStart_flagPressed (v : BitVec c.tsWidth) : (r.writePressStart v).flagPressed = r.flagPressed := rfl
@[simp] theorem Registers.writePressStart_flagReleased (v : BitVec c.tsWidth) : (r.writePressStart v).flagReleased = r.flagReleased := rfl

@[simp] theorem Registers.writeFlagPressed_life (v : Bool) : (r.writeFlagPressed v).life = r.life := rfl
@[simp] theorem Registers.writeFlagPressed_prevState (v : Bool) : (r.writeFlagPressed v).prevState = r.prevState := rfl
@[simp] theorem Registers.writeFlagPressed_lastAccepted (v : Bool) : (r.writeFlagPressed v).lastAccepted = r.lastAccepted := rfl
@[simp] theorem Registers.writeFlagPressed_pos (v : Bool) : (r.writeFlagPressed v).pos = r.pos := rfl
@[simp] theorem Registers.writeFlagPressed_btnRaw (v : Bool) : (r.writeFlagPressed v).btnRaw = r.btnRaw := rfl
@[simp] theorem Registers.writeFlagPressed_btnStable (v : Bool) : (r.writeFlagPressed v).btnStable = r.btnStable := rfl
@[simp] theorem Registers.writeFlagPressed_btnLastChange (v : Bool) : (r.writeFlagPressed v).btnLastChange = r.btnLastChange := rfl
@[simp] theorem Registers.writeFlagPressed_pressStart (v : Bool) : (r.writeFlagPressed v).pressStart = r.pressStart := rfl
@[simp] theorem Registers.writeFlagPressed_flagPressed (v : Bool) : (r.writeFlagPressed v).flagPressed = v := rfl
@[simp] theorem Registers.writeFlagPressed_flagReleased (v : Bool) : (r.writeFlagPressed v).flagReleased = r.flagReleased := rfl

@[simp] theorem Registers.writeFlagReleased_life (v : Bool) : (r.writeFlagReleased v).life = r.life := rfl
@[simp] theorem Registers.writeFlagReleased_prevState (v : Bool) : (r.writeFlagReleased v).prevState = r.prevState := rfl
@[simp] theorem Registers.writeFlagReleased_lastAccepted (v : Bool) : (r.writeFlagReleased v).lastAccepted = r.lastAccepted := rfl
@[simp] theorem Registers.writeFlagReleased_pos (v : Bool) : (r.writeFlagReleased v).pos = r.pos := rfl
@[simp] theorem Registers.writeFlagReleased_btnRaw (v : Bool) : (r.writeFlagReleased v).btnRaw = r.btnRaw := rfl
@[simp] theorem Registers.writeFlagReleased_btnStable (v : Bool) : (r.writeFlagReleased v).btnStable = r.btnStable := rfl
@[simp] theorem Registers.writeFlagReleased_btnLastChange (v : Bool) : (r.writeFlagReleased v).btnLastChange = r.btnLastChange := rfl
@[simp] theorem Registers.writeFlagReleased_pressStart (v : Bool) : (r.writeFlagReleased v).pressStart = r.pressStart := rfl
@[simp] theorem Registers.writeFlagReleased_flagPressed (v : Bool) : (r.writeFlagReleased v).flagPressed = r.flagPressed := rfl
@[simp] theorem Registers.writeFlagReleased_flagReleased (v : Bool) : (r.writeFlagReleased v).flagReleased = v := rfl

end registers

section state
variable (s : State)

@[simp] theorem State.complete_cfg (r : Registers s.cfg) (p : Option (Response s.cfg)) :
    (s.complete r p).cfg = s.cfg := rfl
@[simp] theorem State.complete_regs (r : Registers s.cfg) (p : Option (Response s.cfg)) :
    (s.complete r p).regs = r := rfl
@[simp] theorem State.complete_wires (r : Registers s.cfg) (p : Option (Response s.cfg)) :
    (s.complete r p).wires = s.wires := rfl
@[simp] theorem State.complete_schedule (r : Registers s.cfg) (p : Option (Response s.cfg)) :
    (s.complete r p).schedule = s.schedule := rfl
@[simp] theorem State.complete_rsp (r : Registers s.cfg) (p : Option (Response s.cfg)) :
    (s.complete r p).rsp = p := rfl

@[simp] theorem State.admit_cfg (x : Stimulus s.cfg) (rest : List (Stimulus s.cfg)) :
    (s.serving x rest).cfg = s.cfg := rfl
@[simp] theorem State.admit_regs (x : Stimulus s.cfg) (rest : List (Stimulus s.cfg)) :
    (s.serving x rest).regs = s.regs := rfl
@[simp] theorem State.admit_wires (x : Stimulus s.cfg) (rest : List (Stimulus s.cfg)) :
    (s.serving x rest).wires = x.wires := rfl
@[simp] theorem State.admit_schedule (x : Stimulus s.cfg) (rest : List (Stimulus s.cfg)) :
    (s.serving x rest).schedule = rest := rfl
@[simp] theorem State.admit_rsp (x : Stimulus s.cfg) (rest : List (Stimulus s.cfg)) :
    (s.serving x rest).rsp = s.rsp := rfl

@[simp] theorem State.present_cfg (x : Stimulus s.cfg) : (s.present x).cfg = s.cfg := rfl
@[simp] theorem State.present_regs (x : Stimulus s.cfg) : (s.present x).regs = s.regs := rfl
@[simp] theorem State.present_wires (x : Stimulus s.cfg) : (s.present x).wires = s.wires := rfl
@[simp] theorem State.present_schedule (x : Stimulus s.cfg) : (s.present x).schedule = x :: s.schedule := rfl
@[simp] theorem State.present_rsp (x : Stimulus s.cfg) : (s.present x).rsp = s.rsp := rfl

@[simp] theorem State.hardwareReset_cfg : s.hardwareReset.cfg = s.cfg := rfl
@[simp] theorem State.hardwareReset_regs : s.hardwareReset.regs = Registers.reset s.cfg := rfl
@[simp] theorem State.hardwareReset_wires : s.hardwareReset.wires = s.wires := rfl
@[simp] theorem State.hardwareReset_schedule : s.hardwareReset.schedule = s.schedule := rfl
@[simp] theorem State.hardwareReset_rsp : s.hardwareReset.rsp = none := rfl

end state

end Sys2Proof.Machine
end

