-- ==== Sys2Proof/Laws/Operands.lean ====
section
/-! SUPPORT. The spec lemma of each value computation: the encodings of samples and codes, the filter's verdict, the
classification, and the writes of an accepted sample. -/

namespace Sys2Proof

theorem channelState_eq_append (a b : Bool) : channelState a b = BitVec.ofBool a ++ BitVec.ofBool b := by
  cases a <;> cases b <;> rfl

theorem transitionCode_eq_append (prev cur : ChannelState) : transitionCode prev cur = prev ++ cur := by
  revert prev cur; decide

theorem transitionCode_cur (prev cur : ChannelState) : (transitionCode prev cur).cur = cur := by
  revert prev cur; decide

theorem transitionCode_prev (prev cur : ChannelState) : (transitionCode prev cur).prev = prev := by
  revert prev cur; decide

end Sys2Proof

namespace Sys2Proof.Machine

variable {c : Config}

theorem filterAccepts_eq_true (c : Config) (now last : BitVec c.tsWidth) :
    filterAccepts c now last = true ↔ c.rotInterval ≤ now - last := by
  rw [filterAccepts, tsub, Bool.not_eq_true', ← Bool.not_eq_true, BitVec.ult_iff_lt, BitVec.not_lt]

theorem windowElapsed_eq_true (r : Registers c) (t : BitVec c.tsWidth) :
    r.windowElapsed t = true ↔ c.btnWindow ≤ t - r.btnLastChange := by
  exact BitVec.ule_iff_le

@[simp] theorem count_noStep (r : Registers c) : r.count .noStep = r := rfl

/-- What an accepted sample writes: its three registers and nothing else. -/
theorem acceptSample_eq (r : Registers c) (now : BitVec c.tsWidth) (dir : Direction) (cur : ChannelState) :
    r.acceptSample now dir cur =
      { r with
        lastAccepted := now
        pos := match dir with
          | .clockwise => r.pos + 1
          | .counterClockwise => r.pos - 1
          | .noStep => r.pos
        prevState := cur } := by
  cases dir <;> rfl

/-- The row an EDGE step runs is the row of its classification and its sample: the table of `30_encoding.md` R38 and the
classifier of `40_quadrature_state_machine.md` R47 say the same. -/
theorem exec_decodeCode (prev cur : ChannelState) (s : State) :
    exec (decodeCode (transitionCode prev cur)) s = edgeStep (classify prev cur) cur s := by
  have rows : ∀ p q : ChannelState, ∀ a b d e : Bool, (a, b, d, e) = (p.getLsbD 1, p.getLsbD 0, q.getLsbD 1, q.getLsbD 0) →
      p = BitVec.ofBool a ++ BitVec.ofBool b ∧ q = BitVec.ofBool d ++ BitVec.ofBool e := by decide
  obtain ⟨hp, hq⟩ := rows prev cur _ _ _ _ rfl
  rw [hp, hq]
  generalize prev.getLsbD 1 = a, prev.getLsbD 0 = b, cur.getLsbD 1 = d, cur.getLsbD 0 = e
  cases a <;> cases b <;> cases d <;> cases e <;> rfl

end Sys2Proof.Machine
end

