-- ==== Sys2Proof/Laws/Button.lean ====
section
/-! SUPPORT. The three register operations of UPDATE and the two consuming queries, each as the record it leaves, so that
no proof unfolds a chain of writers. -/

namespace Sys2Proof.Machine

variable {c : Config} (r : Registers c) (raw : Bool) (t : BitVec c.tsWidth)

theorem sampleButton_eq :
    r.sampleButton raw t =
      { r with btnRaw := raw, btnLastChange := if raw = r.btnRaw then r.btnLastChange else t } := by
  by_cases h : raw = r.btnRaw
  · simp only [Registers.sampleButton, ne_eq, h, not_true_eq_false, if_false, if_true]; rfl
  · simp only [Registers.sampleButton, ne_eq, h, not_false_eq_true, if_true, if_false]; rfl

theorem commitButton_press :
    r.commitButton true t = { r with btnStable := true, flagPressed := true, pressStart := t } := rfl

theorem commitButton_release : r.commitButton false t = { r with btnStable := false, flagReleased := true } := rfl

/-- Everything step 3 of UPDATE can do: commit a stable sample that differs, or nothing. -/
theorem debounceButton_cases :
    (c.btnWindow ≤ t - r.btnLastChange ∧ raw ≠ r.btnStable ∧ r.debounceButton raw t = r.commitButton raw t) ∨
    (¬(c.btnWindow ≤ t - r.btnLastChange ∧ raw ≠ r.btnStable) ∧ r.debounceButton raw t = r) := by
  rw [← windowElapsed_eq_true]
  by_cases h : r.windowElapsed t = true ∧ raw ≠ r.btnStable
  · exact .inl ⟨h.1, h.2, if_pos h⟩
  · exact .inr ⟨h, if_neg h⟩

theorem consumePressed_eq : r.consumePressed = { r with flagPressed := false } := rfl

theorem consumeReleased_eq : r.consumeReleased = { r with flagReleased := false } := rfl

/-- What a successful INIT leaves: every register but `pos` is written. -/
theorem attachAt_eq (w : Wires c) :
    r.attachAt w =
      { life := .active, prevState := channelState w.chA w.chB, lastAccepted := w.now, pos := r.pos, btnRaw := !w.btn,
        btnStable := !w.btn, btnLastChange := w.now, pressStart := w.now, flagPressed := false,
        flagReleased := false } := rfl

end Sys2Proof.Machine
end

