-- ==== Sys2Proof/Laws/PerInstr.lean ====
section
/-! SUPPORT. Facts about each instruction as syntax: the word a well-formed instruction is encoded in has no bit above its
format's width. -/

namespace Sys2Proof.Laws.WordFits

/-- The encoded number lies within the width of its format (spec/30_encoding.md section 1). -/
def Statement (i : Instr) : Prop :=
  ∀ c : Config, i.wellFormed c = true → (encodeWord c i).2 < 2 ^ c.formatWidth (encodeWord c i).1

/-- A code or opcode below 16 fits either format. -/
theorem lt_width (c : Config) (f : Format) (n : Nat) (h : n < 16) : n < 2 ^ c.formatWidth f := by
  cases f with
  | tc => exact h
  | cmd =>
    have : 0 < 2 ^ c.cntWidth := Nat.two_pow_pos _
    simp only [Config.formatWidth, Nat.pow_add]
    omega

theorem tcNoStep0000 : Statement .tcNoStep0000 := fun c _ => lt_width c _ 0x0 (by decide)
theorem tcCcw0001 : Statement .tcCcw0001 := fun c _ => lt_width c _ 0x1 (by decide)
theorem tcNoStep0010 : Statement .tcNoStep0010 := fun c _ => lt_width c _ 0x2 (by decide)
theorem tcNoStep0011 : Statement .tcNoStep0011 := fun c _ => lt_width c _ 0x3 (by decide)
theorem tcCw0100 : Statement .tcCw0100 := fun c _ => lt_width c _ 0x4 (by decide)
theorem tcNoStep0101 : Statement .tcNoStep0101 := fun c _ => lt_width c _ 0x5 (by decide)
theorem tcNoStep0110 : Statement .tcNoStep0110 := fun c _ => lt_width c _ 0x6 (by decide)
theorem tcNoStep0111 : Statement .tcNoStep0111 := fun c _ => lt_width c _ 0x7 (by decide)
theorem tcNoStep1000 : Statement .tcNoStep1000 := fun c _ => lt_width c _ 0x8 (by decide)
theorem tcNoStep1001 : Statement .tcNoStep1001 := fun c _ => lt_width c _ 0x9 (by decide)
theorem tcNoStep1010 : Statement .tcNoStep1010 := fun c _ => lt_width c _ 0xA (by decide)
theorem tcCw1011 : Statement .tcCw1011 := fun c _ => lt_width c _ 0xB (by decide)
theorem tcNoStep1100 : Statement .tcNoStep1100 := fun c _ => lt_width c _ 0xC (by decide)
theorem tcNoStep1101 : Statement .tcNoStep1101 := fun c _ => lt_width c _ 0xD (by decide)
theorem tcCcw1110 : Statement .tcCcw1110 := fun c _ => lt_width c _ 0xE (by decide)
theorem tcNoStep1111 : Statement .tcNoStep1111 := fun c _ => lt_width c _ 0xF (by decide)
theorem reserved0000 : Statement .reserved0000 := fun c _ => lt_width c _ 0x0 (by decide)
theorem init : Statement .init := fun c _ => lt_width c _ 0x1 (by decide)
theorem update : Statement .update := fun c _ => lt_width c _ 0x2 (by decide)
theorem getPosition : Statement .getPosition := fun c _ => lt_width c _ 0x3 (by decide)
theorem resetPosition : Statement .resetPosition := fun c _ => lt_width c _ 0x4 (by decide)
theorem setPosition (value : Int) : Statement (.setPosition value) := by
  intro c _
  have h := (BitVec.ofInt c.cntWidth value).isLt
  refine Nat.or_lt_two_pow (lt_width c .cmd 5 (by decide)) ?_
  rw [Nat.shiftLeft_eq]
  simp only [encodeWord, Config.formatWidth, Nat.pow_add]
  omega

theorem isPressed : Statement .isPressed := fun c _ => lt_width c _ 0x6 (by decide)
theorem wasPressed : Statement .wasPressed := fun c _ => lt_width c _ 0x7 (by decide)
theorem wasReleased : Statement .wasReleased := fun c _ => lt_width c _ 0x8 (by decide)
theorem getPressedDuration : Statement .getPressedDuration := fun c _ => lt_width c _ 0x9 (by decide)
theorem teardown : Statement .teardown := fun c _ => lt_width c _ 0xA (by decide)
theorem reserved1011 : Statement .reserved1011 := fun c _ => lt_width c _ 0xB (by decide)
theorem reserved1100 : Statement .reserved1100 := fun c _ => lt_width c _ 0xC (by decide)
theorem reserved1101 : Statement .reserved1101 := fun c _ => lt_width c _ 0xD (by decide)
theorem reserved1110 : Statement .reserved1110 := fun c _ => lt_width c _ 0xE (by decide)
theorem reserved1111 : Statement .reserved1111 := fun c _ => lt_width c _ 0xF (by decide)

end Sys2Proof.Laws.WordFits
end

