-- ==== Sys2Proof/Laws/Decode.lean ====
section
/-! SUPPORT. What the decoder can do, said once: a number within its format's width is an instruction, any other is
rejected by name; and how the opcode and operand fields of a command word are read back. -/

namespace Sys2Proof

variable {c : Config} {word : Nat}

theorem decodeWord_tc (h : word < 2 ^ c.formatWidth .tc) :
    decodeWord c .tc word = .instr (decodeCode (BitVec.ofNat 4 word)) := if_pos h

theorem decodeWord_cmd (h : word < 2 ^ c.formatWidth .cmd) :
    decodeWord c .cmd word = .instr (decodeCommand (commandOpcode word) (commandOperand c.cntWidth word)) := if_pos h

theorem decodeWord_tc_wide (h : ¬ word < 2 ^ c.formatWidth .tc) : decodeWord c .tc word = .rejected .codeTooWide := if_neg h

theorem decodeWord_cmd_wide (h : ¬ word < 2 ^ c.formatWidth .cmd) :
    decodeWord c .cmd word = .rejected .commandTooWide := if_neg h

theorem commandOpcode_toNat (word : Nat) : (commandOpcode word).toNat = word % 16 := rfl

/-- A word built from an opcode and an operand has that opcode field. -/
theorem commandOpcode_or (op : Opcode) (operand : Nat) : commandOpcode (op.toNat ||| operand <<< 4) = op := by
  apply BitVec.eq_of_toNat_eq
  have h : operand <<< 4 % 2 ^ 4 = 0 := by rw [Nat.shiftLeft_eq]; omega
  have := op.isLt
  rw [commandOpcode, BitVec.toNat_ofNat, Nat.or_mod_two_pow, h, Nat.or_zero, Nat.mod_eq_of_lt this]

/-- A word built from an opcode and an operand has that operand field. -/
theorem commandOperand_or {width : Nat} (op : Opcode) (arg : BitVec width) :
    commandOperand width (op.toNat ||| arg.toNat <<< 4) = arg := by
  have h : op.toNat >>> 4 = 0 := by have := op.isLt; rw [Nat.shiftRight_eq_div_pow]; omega
  rw [commandOperand, Nat.shiftRight_or_distrib, h, Nat.zero_or, Nat.shiftLeft_shiftRight, BitVec.ofNat_toNat,
    BitVec.setWidth_eq]

/-- Every two's-complement pattern is a legal operand (`30_encoding.md` R42). -/
theorem operandFits_toInt (c : Config) (arg : BitVec c.cntWidth) : c.operandFits arg.toInt = true := by
  simp only [Config.operandFits, Bool.and_eq_true, decide_eq_true_eq]
  exact ⟨BitVec.le_toInt arg, BitVec.toInt_lt⟩

/-- The code at which a row of the TransitionCode map stands is the code it decodes from. -/
theorem encodeWord_decodeCode (c : Config) (code : TransitionCode) :
    encodeWord c (decodeCode code) = (.tc, code.toNat) := by
  have rows : ∀ code : TransitionCode,
      (decodeCode code).format = .tc ∧ encodeWord Config.standard (decodeCode code) = (.tc, code.toNat) := by decide
  have h := rows code
  revert h
  generalize decodeCode code = i
  cases i <;> simp [Instr.format, encodeWord]

end Sys2Proof
end

