-- ==== Sys2Proof/Laws/Ops.lean ====
section
/-! SUPPORT. What each shared operation can do, said once: how a command ends, how an EDGE step ends, and that every
instruction completes by writing registers and driving the response port, and touches nothing else of the state. -/

namespace Sys2Proof.Machine

variable (s : State)

theorem respondWhenActive_active (r : Registers s.cfg) (d : BitVec s.cfg.rspWidth) (h : s.regs.life = .active) :
    respondWhenActive s r d = .next (s.complete r (some ⟨.ok, d⟩)) := if_pos h

theorem respondWhenActive_suppressed (r : Registers s.cfg) (d : BitVec s.cfg.rspWidth) (h : s.regs.life ≠ .active) :
    respondWhenActive s r d = .next (s.complete s.regs (some ⟨.errState, 0⟩)) := if_neg h

/-- Everything a gated command can do: its writes with OK in ACTIVE, nothing with ERR_STATE elsewhere. -/
theorem respondWhenActive_cases (r : Registers s.cfg) (d : BitVec s.cfg.rspWidth) :
    (s.regs.life = .active ∧ respondWhenActive s r d = .next (s.complete r (some ⟨.ok, d⟩))) ∨
    (s.regs.life ≠ .active ∧ respondWhenActive s r d = .next (s.complete s.regs (some ⟨.errState, 0⟩))) := by
  by_cases h : s.regs.life = .active
  · exact .inl ⟨h, respondWhenActive_active s r d h⟩
  · exact .inr ⟨h, respondWhenActive_suppressed s r d h⟩

theorem edgeStep_accepted (dir : Direction) (cur : ChannelState) (h : s.regs.life = .active)
    (ha : filterAccepts s.cfg s.wires.now s.regs.lastAccepted = true) :
    edgeStep dir cur s = .next (s.complete (s.regs.acceptSample s.wires.now dir cur) none) := if_pos ⟨h, ha⟩

theorem edgeStep_ignored (dir : Direction) (cur : ChannelState)
    (h : ¬(s.regs.life = .active ∧ filterAccepts s.cfg s.wires.now s.regs.lastAccepted = true)) :
    edgeStep dir cur s = .next (s.complete s.regs none) := if_neg h

/-- Everything an EDGE step can do: accept the sample, or leave every register as it is. -/
theorem edgeStep_cases (dir : Direction) (cur : ChannelState) :
    (s.regs.life = .active ∧ filterAccepts s.cfg s.wires.now s.regs.lastAccepted = true ∧
      edgeStep dir cur s = .next (s.complete (s.regs.acceptSample s.wires.now dir cur) none)) ∨
    edgeStep dir cur s = .next (s.complete s.regs none) := by
  by_cases h : s.regs.life = .active ∧ filterAccepts s.cfg s.wires.now s.regs.lastAccepted = true
  · exact .inl ⟨h.1, h.2, edgeStep_accepted s dir cur h.1 h.2⟩
  · exact .inr (edgeStep_ignored s dir cur h)

/-- Everything INIT can do (`44_decoder_top_and_lifecycle.md` R80). -/
theorem execInit_cases :
    (s.regs.life = .uninit ∧ s.wires.attachOk = true ∧
      execInit s = .next (s.complete (s.regs.attachAt s.wires) (some ⟨.ok, 0⟩))) ∨
    (s.regs.life = .uninit ∧ s.wires.attachOk = false ∧ execInit s = .next (s.complete s.regs (some ⟨.errAttach, 0⟩))) ∨
    (s.regs.life ≠ .uninit ∧ execInit s = .next (s.complete s.regs (some ⟨.errState, 0⟩))) := by
  by_cases hl : s.regs.life = .uninit
  · cases ha : s.wires.attachOk
    · exact .inr (.inl ⟨hl, rfl, by simp [execInit, hl, ha, raiseAttachFailure, respond]⟩)
    · exact .inl ⟨hl, rfl, by simp [execInit, hl, ha, respond]⟩
  · exact .inr (.inr ⟨hl, by simp [execInit, hl, suppress, respond]⟩)

/-- The shape of every outcome of a meaning: the step completes, with some registers and some response. -/
abbrev Completes (s : State) (o : Host.Outcome State Fault Refusal) : Prop := ∃ r p, o = .next (s.complete r p)

theorem respond_completes (r : Registers s.cfg) (st : Status) (d : BitVec s.cfg.rspWidth) :
    Completes s (respond s r st d) := ⟨r, _, rfl⟩

theorem respondWhenActive_completes (r : Registers s.cfg) (d : BitVec s.cfg.rspWidth) :
    Completes s (respondWhenActive s r d) := by
  obtain ⟨-, h⟩ | ⟨-, h⟩ := respondWhenActive_cases s r d <;> exact ⟨_, _, h⟩

theorem edgeStep_completes (dir : Direction) (cur : ChannelState) : Completes s (edgeStep dir cur s) := by
  obtain ⟨-, -, h⟩ | h := edgeStep_cases s dir cur <;> exact ⟨_, _, h⟩

theorem execInit_completes : Completes s (execInit s) := by
  obtain ⟨-, -, h⟩ | ⟨-, -, h⟩ | ⟨-, h⟩ := execInit_cases s <;> exact ⟨_, _, h⟩

/-- Every instruction completes in every state, and changes nothing but the registers and the response port. -/
theorem exec_completes (i : Instr) : Completes s (exec i s) := by
  cases i <;>
    first
      | exact edgeStep_completes s _ _
      | exact respondWhenActive_completes s _ _
      | exact execInit_completes s
      | exact respond_completes s _ _ _

end Sys2Proof.Machine
end

