-- ==== Sys2Proof/Laws/Step.lean ====
section
/-! SUPPORT. What a step can do, said once, from the machine's parts: the configuration check, the next stimulus, and the
agent that serves it. Runs are taken apart one step at a time. -/

namespace Sys2Proof.Machine

variable {s : State}

theorem step_of_legal (h : s.cfg.legal = true) : step s = serveNext s := if_pos h

theorem serveNext_cons {x : Stimulus s.cfg} {rest : List (Stimulus s.cfg)} (h : s.schedule = x :: rest) :
    serveNext s = serve s x rest := by simp only [serveNext, h]

theorem step_cons {x : Stimulus s.cfg} {rest : List (Stimulus s.cfg)} (hc : s.cfg.legal = true)
    (h : s.schedule = x :: rest) : step s = serve s x rest := by rw [step_of_legal hc, serveNext_cons h]

/-- What serving a stimulus can do: it always completes, over the state the stimulus was admitted to. -/
theorem serve_completes (x : Stimulus s.cfg) (rest : List (Stimulus s.cfg)) :
    Completes (s.serving x rest) (serve s x rest) := by
  unfold serve
  split
  · exact exec_completes _ _
  · exact exec_completes _ _
  · exact ⟨_, _, rfl⟩

/-- An EDGE step is the EDGE step of the classification of its sample. -/
theorem serve_edge (w : Wires s.cfg) (rest : List (Stimulus s.cfg)) :
    serve s ⟨.edge, w⟩ rest =
      edgeStep (classify s.regs.prevState w.sampleChannels) w.sampleChannels (s.serving ⟨.edge, w⟩ rest) :=
  exec_decodeCode _ _ _

@[simp] theorem runSteps_zero (s : State) : runSteps 0 s = .next s := rfl

/-- A run of `k + 1` steps is its first step and a run of `k` from there. -/
theorem runSteps_succ {t : State} (k : Nat) (h : step s = .next t) : runSteps (k + 1) s = runSteps k t := by
  simp only [runSteps, h]

/-- `runSteps` is the host's run of the machine. -/
theorem run_core (k : Nat) (s : State) : Host.Core.run Sys2Proof.core k s = runSteps k s := by
  induction k generalizing s with
  | zero => rfl
  | succ k ih =>
    simp only [Host.Core.run, runSteps, Sys2Proof.core] at ih ⊢
    cases step s with
    | next t => exact ih t
    | fault r => rfl
    | refused r => rfl

end Sys2Proof.Machine
end

