-- ==== Sys2Proof/Tests/Slice0.lean ====
section
/-! SUPPORT. Tests: the well-formedness smoke, the decoding of every row from a word written out from
spec/30_encoding.md R38 and R41, single steps whose results are those of spec/95_test_vectors.md (vector named at each),
and a witness for the hypotheses of every statement that has some. -/

namespace Sys2Proof.Tests

open Sys2Proof Sys2Proof.Machine

/-! ### Well-formedness (`30_encoding.md` R42: the operand range at 32 bits) -/

theorem test_operand_above_range : (Instr.setPosition 2147483648).wellFormed Config.standard = false := by decide
theorem test_operand_below_range : (Instr.setPosition (-2147483649)).wellFormed Config.standard = false := by decide
theorem test_operand_extremes : (Instr.setPosition 2147483647).wellFormed Config.standard = true ∧
    (Instr.setPosition (-2147483648)).wellFormed Config.standard = true := by decide

/-! ### Decoding -/

/-- `30_encoding.md` R38, first eight rows. -/
theorem test_decode_codes_low : ∀ row ∈ [(0b0000, Instr.tcNoStep0000), (0b0001, .tcCcw0001), (0b0010, .tcNoStep0010),
    (0b0011, .tcNoStep0011), (0b0100, .tcCw0100), (0b0101, .tcNoStep0101), (0b0110, .tcNoStep0110),
    (0b0111, .tcNoStep0111)], decodeWord Config.standard .tc row.1 = .instr row.2 := by decide

/-- `30_encoding.md` R38, last eight rows. -/
theorem test_decode_codes_high : ∀ row ∈ [(0b1000, Instr.tcNoStep1000), (0b1001, .tcNoStep1001), (0b1010, .tcNoStep1010),
    (0b1011, .tcCw1011), (0b1100, .tcNoStep1100), (0b1101, .tcNoStep1101), (0b1110, .tcCcw1110),
    (0b1111, .tcNoStep1111)], decodeWord Config.standard .tc row.1 = .instr row.2 := by decide

/-- `30_encoding.md` R41, opcodes 0 to 7, as eight-bit table words. -/
theorem test_decode_opcodes_low : ∀ row ∈ [(0x00, Instr.reserved0000), (0x01, .init), (0x02, .update),
    (0x03, .getPosition), (0x04, .resetPosition), (0x05, .setPosition 0), (0x06, .isPressed), (0x07, .wasPressed)],
    decodeTableWord 8 row.1 = some row.2 := by decide

/-- `30_encoding.md` R41, R44, opcodes 8 to 15, as eight-bit table words. -/
theorem test_decode_opcodes_high : ∀ row ∈ [(0x08, Instr.wasReleased), (0x09, .getPressedDuration), (0x0A, .teardown),
    (0x0B, .reserved1011), (0x0C, .reserved1100), (0x0D, .reserved1101), (0x0E, .reserved1110), (0x0F, .reserved1111)],
    decodeTableWord 8 row.1 = some row.2 := by decide

/-- E2: SET_POSITION 42 is `cmd_op = 0x5`, `cmd_arg = 0x0000002A`; V4.8: `cmd_arg = 0x80000000` is the lowest value. -/
theorem test_decode_operand : decodeTableWord 36 0x0000002A5 = some (.setPosition 42) ∧
    decodeTableWord 36 0x800000005 = some (.setPosition (-2147483648)) := by decide

/-- An operand on a command that takes none is ignored (`30_encoding.md` R40). -/
theorem test_decode_ignored_operand : decodeTableWord 36 0xABCDEF017 = some .wasPressed := by decide

theorem test_reject_wide_code : decodeWord Config.standard .tc 0x10 = .rejected .codeTooWide := by decide
theorem test_reject_wide_command : decodeWord Config.standard .cmd 0x1000000000 = .rejected .commandTooWide := by decide

/-- `30_encoding.md` R38, column "kind". -/
theorem test_code_kinds : (∀ code ∈ [0x1#4, 0x4#4, 0xB#4, 0xE#4], TransitionCode.kind code = .singleBitEndpoint) ∧
    (∀ code ∈ [0x2#4, 0x7#4, 0x8#4, 0xD#4], TransitionCode.kind code = .singleBitIntermediate) ∧
    (∀ code ∈ [0x0#4, 0x5#4, 0xA#4, 0xF#4], TransitionCode.kind code = .duplicate) ∧
    (∀ code ∈ [0x3#4, 0x6#4, 0x9#4, 0xC#4], TransitionCode.kind code = .doubleBit) := by decide

/-- `10_state.md` R10, `30_encoding.md` R43: the codes of the lifecycle and of the statuses. -/
theorem test_codes : Lifecycle.uninit.bits = 0b00 ∧ Lifecycle.active.bits = 0b01 ∧ Lifecycle.detached.bits = 0b10 ∧
    Status.ok.bits = 0b00 ∧ Status.errState.bits = 0b01 ∧ Status.errAttach.bits = 0b10 ∧ Status.errOpcode.bits = 0b11 := by
  decide

/-! ### Single steps at the default parameters -/

/-- The default parameters of `00_scope.md` R4. -/
abbrev C : Config := Config.standard

/-- The state line of `95_test_vectors.md`: `life prevState lastAccepted pos | btnRaw btnStable btnLastChange pressStart
flagPressed flagReleased`. -/
abbrev line (life : Lifecycle) (prev : ChannelState) (last : Nat) (pos : Int) (raw stable : Bool) (change start : Nat)
    (pressed released : Bool) : Registers C :=
  ⟨life, prev, BitVec.ofNat 32 last, BitVec.ofInt 32 pos, raw, stable, BitVec.ofNat 32 change, BitVec.ofNat 32 start,
    pressed, released⟩

/-- A state about to take one step. -/
abbrev before (r : Registers C) (x : Stimulus C) : State := ⟨C, r, Wires.quiet C, [x], none⟩

/-- The next state, if the step completes. -/
def nextOf : Host.Outcome State Fault Refusal → Option State
  | .next t => some t
  | .fault _ => none
  | .refused _ => none

/-- One line of a program runs from registers `r` to registers `r'` and drives the response `p`. -/
abbrev Runs (l : StepLine C) (r r' : Registers C) (p : Option (Response C)) : Prop :=
  nextOf (step (before r (l.stimulus (Wires.quiet C)))) =
    some ⟨C, r', (l.stimulus (Wires.quiet C)).wires, [], p⟩

/-- A command given by its opcode runs. -/
abbrev RunsOp (op : Opcode) (r r' : Registers C) (p : Option (Response C)) : Prop :=
  nextOf (step (before r ⟨.command op 0, Wires.quiet C⟩)) = some ⟨C, r', Wires.quiet C, [], p⟩

/-- A response `(status, data)`. -/
def rsp (s : Status) (d : Nat) : Option (Response C) := some ⟨s, BitVec.ofNat 32 d⟩

/-- V1: previous state, sample, change of `pos`, first eight rows. -/
theorem test_codes_count_low : ∀ row ∈ [(0b00#2, 0b00#2, (0 : Int)), (0b00, 0b01, -1), (0b00, 0b10, 0), (0b00, 0b11, 0),
    (0b01, 0b00, 1), (0b01, 0b01, 0), (0b01, 0b10, 0), (0b01, 0b11, 0)],
    Runs (.edge row.2.1 6000) (line .active row.1 5000 7 false false 0 0 false false)
      (line .active row.2.1 6000 (7 + row.2.2) false false 0 0 false false) none := by decide

/-- V1, last eight rows. -/
theorem test_codes_count_high : ∀ row ∈ [(0b10#2, 0b00#2, (0 : Int)), (0b10, 0b01, 0), (0b10, 0b10, 0), (0b10, 0b11, 1),
    (0b11, 0b00, 0), (0b11, 0b01, 0), (0b11, 0b10, -1), (0b11, 0b11, 0)],
    Runs (.edge row.2.1 6000) (line .active row.1 5000 7 false false 0 0 false false)
      (line .active row.2.1 6000 (7 + row.2.2) false false 0 0 false false) none := by decide

/-- V3.1, V3.2, V3.4, V3.5: one tick short, exactly the interval, and both across a wrap of the counter. -/
theorem test_filter_boundary : filterAccepts C 5999 5000 = false ∧ filterAccepts C 6000 5000 = true ∧
    filterAccepts C 0x000002E7 0xFFFFFF00 = false ∧ filterAccepts C 0x000002E8 0xFFFFFF00 = true := by decide

/-- V3.7, V3.8, V3.9: the extreme intervals. -/
theorem test_filter_extreme_intervals : filterAccepts { C with rotInterval := 0 } 5000 5000 = true ∧
    filterAccepts { C with rotInterval := 0xFFFFFFFF } 4999 5000 = true ∧
    filterAccepts { C with rotInterval := 0xFFFFFFFF } 4998 5000 = false := by decide

/-- V3.11: a 16-bit time counter. -/
theorem test_filter_narrow_counter : filterAccepts (Config.ofWidths 32 16 1000) 0x03D8 0xFFF0 = true := by decide

/-- V6.5, second row: a rejected sample changes nothing. -/
theorem test_edge_rejected : Runs (.edge 0b11 4999) (line .active 0b10 4000 0 false false 0 0 false false)
    (line .active 0b10 4000 0 false false 0 0 false false) none := by decide

/-- V4.3, V4.3b: the counter wraps at both extremes. -/
theorem test_counter_wraps :
    Runs (.edge 0b00 6000) (line .active 0b01 5000 2147483647 false false 0 0 false false)
      (line .active 0b00 6000 (-2147483648) false false 0 0 false false) none ∧
    Runs (.edge 0b10 6000) (line .active 0b11 5000 (-2147483648) false false 0 0 false false)
      (line .active 0b10 6000 2147483647 false false 0 0 false false) none := by decide

/-- V6.6: no edge after teardown. -/
theorem test_edge_after_teardown : Runs (.edge 0b11 9000) (line .detached 0b10 4000 5 false false 0 0 false false)
    (line .detached 0b10 4000 5 false false 0 0 false false) none := by decide

/-- V4.6, V4.7. -/
theorem test_get_position : Runs .getPosition (line .active 0b00 0 (-1) false false 0 0 false false)
    (line .active 0b00 0 (-1) false false 0 0 false false) (rsp .ok 0xFFFFFFFF) := by decide

/-- V4.7, second part: `CNT_WIDTH = 16`, `TS_WIDTH = 32` sign-extends. -/
theorem test_get_position_narrow : dataOfPosition (Config.ofWidths 16 32 1000) 0xFFFF = 0xFFFFFFFF := by decide

/-- V4.4, and V6.1: suppressed in UNINIT. -/
theorem test_reset_position :
    Runs .resetPosition (line .active 0b10 4000 (-17) false false 0 0 false false)
      (line .active 0b10 4000 0 false false 0 0 false false) (rsp .ok 0) ∧
    Runs .resetPosition (Registers.reset C) (Registers.reset C) (rsp .errState 0) := by decide

/-- V4.5, V4.8. -/
theorem test_set_position :
    Runs (.setPosition 42) (line .active 0b10 4000 7 false false 0 0 false false)
      (line .active 0b10 4000 42 false false 0 0 false false) (rsp .ok 0) ∧
    Runs (.setPosition (-2147483648)) (line .active 0b10 4000 5 false false 0 0 false false)
      (line .active 0b10 4000 (-2147483648) false false 0 0 false false) (rsp .ok 0) := by decide

/-- V6.1: SET_POSITION 7 in UNINIT. -/
theorem test_set_position_suppressed :
    Runs (.setPosition 7) (Registers.reset C) (Registers.reset C) (rsp .errState 0) := by decide

/-- V5.1: one tick short of the window, then the window: commit. -/
theorem test_update_commits_press :
    Runs (.update false 59999) (line .active 0b00 0 0 true false 10000 0 false false)
      (line .active 0b00 0 0 true false 10000 0 false false) (rsp .ok 0) ∧
    Runs (.update false 60000) (line .active 0b00 0 0 true false 10000 0 false false)
      (line .active 0b00 0 0 true true 10000 60000 true false) (rsp .ok 0) := by decide

/-- P2 step 17 with V5.8: a release commits, and the "pressed" flag survives it. -/
theorem test_update_commits_release :
    Runs (.update true 180000) (line .active 0b11 100 0 false true 130000 70000 true false)
      (line .active 0b11 100 0 false false 130000 70000 true true) (rsp .ok 0) ∧
    Runs (.update false 10000) (line .active 0b00 0 0 false false 0 0 false false)
      (line .active 0b00 0 0 true false 10000 0 false false) (rsp .ok 0) := by decide

/-- P2 steps 8 and 18. -/
theorem test_is_pressed :
    Runs .isPressed (line .active 0b11 100 0 true true 20000 70000 true false)
      (line .active 0b11 100 0 true true 20000 70000 true false) (rsp .ok 1) ∧
    Runs .isPressed (Registers.reset C) (Registers.reset C) (rsp .ok 0) := by decide

/-- P2 step 9; V6.4: the flag is kept in DETACHED. -/
theorem test_was_pressed :
    Runs .wasPressed (line .active 0b11 100 0 true true 20000 70000 true true)
      (line .active 0b11 100 0 true true 20000 70000 false true) (rsp .ok 1) ∧
    Runs .wasPressed (line .detached 0b11 3000 43 true true 2000 2000 true false)
      (line .detached 0b11 3000 43 true true 2000 2000 true false) (rsp .errState 0) := by decide

/-- P2 steps 19 and 20. -/
theorem test_was_released :
    Runs .wasReleased (line .active 0b11 100 0 false false 130000 70000 true true)
      (line .active 0b11 100 0 false false 130000 70000 true false) (rsp .ok 1) ∧
    Runs .wasReleased (line .active 0b11 100 0 false false 130000 70000 true false)
      (line .active 0b11 100 0 false false 130000 70000 true false) (rsp .ok 0) := by decide

/-- V6.4 and V5.7: the duration grows in DETACHED, and is taken across a wrap. -/
theorem test_get_pressed_duration :
    Runs (.getPressedDuration 10000) (line .detached 0b11 3000 43 true true 2000 2000 true false)
      (line .detached 0b11 3000 43 true true 2000 2000 true false) (rsp .ok 8000) ∧
    Runs (.getPressedDuration 0xC2EF) (line .active 0b11 3000 43 true true 0 0xC2F0 true false)
      (line .active 0b11 3000 43 true true 0 0xC2F0 true false) (rsp .ok 0xFFFFFFFF) := by decide

/-- V6.1 last row; P3 step 6: a button held at INIT. -/
theorem test_init :
    Runs (.init 0b10 true true 250) (Registers.reset C) (line .active 0b10 250 0 false false 250 250 false false)
      (rsp .ok 0) ∧
    Runs (.init 0b10 false true 2000) (Registers.reset C) (line .active 0b10 2000 0 true true 2000 2000 false false)
      (rsp .ok 0) := by decide

/-- V6.1 (refused attach) and V6.2 (the lifecycle check comes first). -/
theorem test_init_refused :
    Runs (.init 0b10 true false 250) (Registers.reset C) (Registers.reset C) (rsp .errAttach 0) ∧
    Runs (.init 0b00 true false 9000) (line .active 0b10 250 5 true true 250 250 true false)
      (line .active 0b10 250 5 true true 250 250 true false) (rsp .errState 0) := by decide

/-- V6.1 and V6.7. -/
theorem test_teardown :
    Runs .teardown (Registers.reset C) { Registers.reset C with life := .detached } (rsp .ok 0) ∧
    Runs .teardown (line .active 0b10 4000 5 true true 250 250 true false)
      (line .detached 0b10 4000 5 true true 250 250 true false) (rsp .ok 0) := by decide

/-- V6.8. -/
theorem test_reserved_opcodes : ∀ op ∈ [0x0#4, 0xB#4, 0xC#4, 0xD#4, 0xE#4, 0xF#4],
    RunsOp op (line .active 0b10 4000 3 true true 250 250 true false)
      (line .active 0b10 4000 3 true true 250 250 true false) (rsp .errOpcode 0) := by decide

/-- `70_reset_and_hazards.md` R99: hardware reset is the way out of DETACHED. -/
theorem test_hardware_reset :
    nextOf (step (before (line .detached 0b11 3000 43 true true 2000 2000 true true) ⟨.hardwareReset, Wires.quiet C⟩)) =
      some ⟨C, line .uninit 0b00 0 0 false false 0 0 false false, Wires.quiet C, [], none⟩ := by decide

/-- V6.1, last line: with `INIT_POS = 100` reset leaves 100. -/
theorem test_initial_position : (State.constructed { C with initPos := 100 }).regs.pos = 100 := by decide

/-- `93_implementation_defined.md` U14: a one-bit counter is no configuration. -/
theorem test_illegal_configuration : (Config.ofWidths 1 32 1000).legal = false ∧ (Config.ofWidths 2 0 1000).legal = false ∧
    (Config.ofWidths 2 1 1000).legal = true := by decide

/-- The step after placing the table word of TEARDOWN at reset. -/
theorem test_fetch_command : nextOf (step (State.reset.withFetchWord 8 0xA)) =
    some { State.reset with regs := { Registers.reset C with life := .detached }, rsp := rsp .ok 0 } := by decide

/-- The step after placing the 4-bit code 10 to 11 at reset counts one. -/
theorem test_fetch_code : (nextOf (step (State.reset.withFetchWord 4 0xB))).map (fun t => (t.regs.pos.toInt, t.regs.prevState)) =
    some (1, 0b11) := by decide

/-- `30_encoding.md` R45, the forms of EDGE and UPDATE, and SET_POSITION with a signed operand. -/
theorem test_line_text : (StepLine.edge (c := C) 0b10 5000).text = "EDGE ab=10 @5000" ∧
    (StepLine.update (c := C) false 60000).text = "UPDATE btn=0 @60000" ∧
    (StepLine.setPosition (c := C) (-42)).text = "SET_POSITION -42" := by decide

/-- `30_encoding.md` R45: lines of the rule's own list, comments included, and `95_test_vectors.md`'s hexadecimal time. -/
theorem test_line_read :
    StepLine.read C "EDGE ab=10 @5000                 ; environment event" = some (.edge 0b10 5000) ∧
    StepLine.read C "INIT ab=00 btn=1 ok=1 @0" = some (.init 0b00 true true 0) ∧
    StepLine.read C "SET_POSITION 42                  ; operand decimal, signed" = some (.setPosition 42) ∧
    StepLine.read C "UPDATE btn=0 @0xFFFFFF00" = some (.update false 0xFFFFFF00) := by decide

/-- What is no line: an operand outside the counter's range, a time outside the time counter's. -/
theorem test_line_refused : StepLine.read C "SET_POSITION 2147483648" = none ∧
    StepLine.read C "GET_PRESSED_DURATION @4294967296" = none := by decide

/-! ### Witnesses: concrete states and operands that meet the hypotheses of a statement, all together

`witness_<name>` is that of `Obligations.<Name>`; where one serves several statements it names them. -/

/-- Wires with the given levels and time. -/
abbrev wires (a b btn ok : Bool) (t : Nat) : Wires C := ⟨a, b, btn, ok, BitVec.ofNat 32 t⟩

/-- A state at the default parameters. -/
abbrev stateAt (r : Registers C) (w : Wires C) (q : List (Stimulus C)) : State := ⟨C, r, w, q, none⟩

/-- Registers in ACTIVE, last sample 10 accepted at 5000, a press under way since 10000. -/
abbrev running : Registers C := line .active 0b10 5000 7 true false 10000 0 false false

/-- Registers in ACTIVE with both edge flags set and the button held since 20000. -/
abbrev held : Registers C := line .active 0b00 5000 (-3) true true 20000 20000 true true

/-- Registers after TEARDOWN with the "pressed" flag set. -/
abbrev detached : Registers C := line .detached 0b11 3000 43 true true 2000 2000 true false

theorem witness_decodeOfEncodeIsTheInstruction : C.legal = true ∧ (Instr.setPosition (-1)).wellFormed C = true ∧
    (Instr.setPosition (-2147483648)).wellFormed C = true ∧ (Instr.setPosition 2147483647).wellFormed C = true := by decide

/-- Both clauses, the second at operand bits that are all 1, and the largest words. -/
theorem witness_everyWordDecodesAndReencodesWithoutIgnoredOperand :
    (15 < 16) ∧ C.legal = true ∧ 0xFFFFFFFF5 < 2 ^ (4 + C.cntWidth) ∧
    0xFFFFFFFF5 % 16 = 5 ∧ 0xFFFFFFFFF < 2 ^ (4 + C.cntWidth) ∧ 0xFFFFFFFFF % 16 ≠ 5 := by decide

/-- The smallest rejected number of each format. -/
theorem witness_tooWideWordsAreRejected : 16 ≤ 16 ∧ 2 ^ (4 + C.cntWidth) ≤ 0x1000000000 := by decide

theorem witness_exchangedWiresMoveTheEndpoints :
    classify (channelState true false) (channelState true true) ≠ .noStep := by decide

theorem witness_linesSelectTheirInstructions : (Instr.setPosition (-2147483648)).wellFormed C = true ∧ C.legal = true := by
  decide

/-- One witness for each of the three clauses. -/
theorem witness_stepRunsTheSelectedInstruction : C.legal = true ∧
    (stateAt running (Wires.quiet C) [⟨.command 0x3 0, wires true true true true 9⟩]).schedule =
      [⟨.command 0x3 0, wires true true true true 9⟩] ∧
    (stateAt running (Wires.quiet C) [⟨.edge, wires true true true true 9⟩]).schedule =
      [⟨.edge, wires true true true true 9⟩] ∧
    (stateAt running (Wires.quiet C) []).schedule = [] := by decide

/-- The largest word of each clause. -/
theorem witness_fetchedWordRunsItsInstruction : 0xFFFFFFFFF < 2 ^ 36 ∧ 0xF < 2 ^ 4 := by decide

/-- A state whose next stimulus is an EDGE step, one whose next is a command, one whose next is hardware reset. -/
theorem witness_everyStepCompletes : ∀ x ∈ [(⟨.edge, Wires.quiet C⟩ : Stimulus C), ⟨.command 0xB 0, Wires.quiet C⟩,
    ⟨.hardwareReset, Wires.quiet C⟩], (before held x).cfg.legal = true ∧ (before held x).schedule = x :: [] := by decide

/-- Each disjunct at its boundary. -/
theorem witness_illegalConfigurationIsRefused :
    (State.constructed (Config.ofWidths 1 32 1000)).cfg.cntWidth < 2 ∧
    (State.constructed (Config.ofWidths 2 0 1000)).cfg.tsWidth < 1 := by decide

theorem witness_parametersNeverChange : ∃ t, runSteps 1 (before held ⟨.command 0xA 0, Wires.quiet C⟩) = .next t :=
  ⟨_, rfl⟩

theorem witness_hardwareResetSetsEveryRegister : C.legal = true ∧
    (before detached ⟨.hardwareReset, Wires.quiet C⟩).schedule = [⟨.hardwareReset, Wires.quiet C⟩] := by decide

/-- The narrowest legal widths. -/
theorem witness_invariantHoldsAtReset : (Config.ofWidths 2 1 1).legal = true := by decide

/-- A step out of UNINIT and a step within ACTIVE. -/
theorem witness_everyStepKeepsTheInvariant :
    ((before (Registers.reset C) ⟨.command 0x1 0, wires true false true true 250⟩).Inv ∧
      ∃ t, step (before (Registers.reset C) ⟨.command 0x1 0, wires true false true true 250⟩) = .next t) ∧
    (before held ⟨.edge, Wires.quiet C⟩).Inv ∧ ∃ t, step (before held ⟨.edge, Wires.quiet C⟩) = .next t :=
  ⟨⟨⟨by decide, by decide⟩, _, rfl⟩, ⟨by decide, by decide⟩, _, rfl⟩

/-- A sample exactly `ROT_INTERVAL` after the last accepted one: the hypotheses of ClockwiseCodesIncrement,
CounterClockwiseCodesDecrement, CountingRowsWriteThreeRegisters and NoStepRowsOnlyRecordTheSample. -/
theorem witness_acceptedRow : (stateAt running (wires true true true true 6000) []).regs.life = .active ∧
    (stateAt running (wires true true true true 6000) []).cfg.rotInterval ≤
      (stateAt running (wires true true true true 6000) []).wires.now -
        (stateAt running (wires true true true true 6000) []).regs.lastAccepted := by decide

/-- Each disjunct: a detached edge path, and a sample one tick short of the interval. -/
theorem witness_detachedOrEarlySamplesChangeNothing : Instr.tcCw1011.format = .tc ∧
    (stateAt detached (wires true true true true 9000) []).regs.life ≠ .active ∧
    (stateAt running (wires true true true true 5999) []).wires.now -
        (stateAt running (wires true true true true 5999) []).regs.lastAccepted <
      (stateAt running (wires true true true true 5999) []).cfg.rotInterval := by decide

theorem witness_edgeStepIsThePseudocode : C.legal = true ∧
    (before running ⟨.edge, wires true true true true 6000⟩).schedule = [⟨.edge, wires true true true true 6000⟩] := by decide

/-- Real times further apart than one period. -/
theorem witness_filterMeasuresElapsedTimeModuloThePeriod : 5000 ≤ 5000 + 2 ^ 32 := by decide

/-- The four clauses: the neighbours of the extreme values, and the extremes. -/
theorem witness_counterWrapsAtTheExtremes : C.legal = true ∧
    (line .active 0 0 2147483646 false false 0 0 false false).pos.toInt < 2 ^ (C.cntWidth - 1) - 1 ∧
    (line .active 0 0 2147483647 false false 0 0 false false).pos.toInt = 2 ^ (C.cntWidth - 1) - 1 ∧
    -2 ^ (C.cntWidth - 1) < (line .active 0 0 (-2147483647) false false 0 0 false false).pos.toInt ∧
    (line .active 0 0 (-2147483648) false false 0 0 false false).pos.toInt = -2 ^ (C.cntWidth - 1) := by decide

/-- A sequence of three accepted samples, each exactly at the interval. -/
theorem witness_acceptedRotationIsCountedExactly :
    let ws := [wires true true true true 6000, wires false true true true 7000, wires false false true true 8000]
    C.legal = true ∧ running.life = .active ∧ (stateAt running (Wires.quiet C) (edges ws)).schedule = edges ws ++ [] ∧
      allAccepted running.lastAccepted ws :=
  ⟨by decide, by decide, by decide, by decide, by decide, by decide, trivial⟩

/-- Both cycles. -/
theorem witness_fullCycleCountsTwo :
    let ws := [wires true false true true 6000, wires true true true true 7000, wires false true true true 8000,
      wires false false true true 9000]
    let vs := [wires false true true true 6000, wires true true true true 7000, wires true false true true 8000,
      wires false false true true 9000]
    C.legal = true ∧ held.life = .active ∧ held.prevState = 0b00 ∧ ws.map Wires.sampleChannels = [0b10, 0b11, 0b01, 0b00] ∧
      vs.map Wires.sampleChannels = [0b01, 0b11, 0b10, 0b00] ∧ allAccepted held.lastAccepted ws ∧
      allAccepted held.lastAccepted vs :=
  ⟨by decide, by decide, by decide, by decide, by decide, ⟨by decide, by decide, by decide, by decide, trivial⟩,
    by decide, by decide, by decide, by decide, trivial⟩

/-- The last sample of the burst is one tick short of the interval. -/
theorem witness_burstCountsAtMostOnce :
    let w := wires true true true true 6000
    let ws := [wires true false true true 6001, wires true true true true 6999]
    C.legal = true ∧ running.life = .active ∧ C.rotInterval ≤ w.now - running.lastAccepted ∧
      (stateAt running (Wires.quiet C) (⟨.edge, w⟩ :: edges ws)).schedule = ⟨.edge, w⟩ :: (edges ws ++ []) ∧
      ∀ v ∈ ws, v.now - w.now < C.rotInterval := by decide

/-- The UNINIT clauses of GetPositionReturnsTheCounter and IsPressedReturnsTheDebouncedState. -/
theorem witness_getPositionReturnsTheCounter : State.reset.Inv ∧ State.reset.regs.life = .uninit :=
  ⟨⟨by decide, by decide⟩, by decide⟩

/-- The clauses of SetPositionStoresItsOperand, and so those of ResetPositionZeroesTheCounter, UpdateSamplesAndCommits and
WasReleasedConsumesItsFlag: ACTIVE, and each other lifecycle state. -/
theorem witness_setPositionStoresItsOperand : running.life = .active ∧
    C.rotInterval ≤ (wires true true true true 6000).now - running.lastAccepted ∧
    detached.life ≠ .active ∧ (Registers.reset C).life ≠ .active := by decide

/-- A command that changes `pos` and an EDGE step. -/
theorem witness_counterChangesOnlyAsAllowed :
    let x : Stimulus C := ⟨.command 0x4 0, Wires.quiet C⟩
    let y : Stimulus C := ⟨.edge, wires true true true true 6000⟩
    C.legal = true ∧ (before running x).schedule = [x] ∧ x.event ≠ .hardwareReset ∧ (before running y).schedule = [y] ∧
      y.event ≠ .hardwareReset ∧ y.event = .edge ∧
      (nextOf (step (before running x))).map (fun t => t.regs.pos.toInt) = some 0 ∧ running.pos.toInt ≠ 0 := by decide

/-- A flag that is set and consumed, and a flag that is not set. -/
theorem witness_wasPressedConsumesItsFlag : held.life = .active ∧ held.flagPressed = true ∧ running.life = .active ∧
    running.flagPressed = false ∧ detached.life ≠ .active := by decide

/-- The clauses of a released button, a held one, and a held one with real times across a wrap of the counter. -/
theorem witness_pressedDurationIsTheHoldTime : running.btnStable = false ∧ held.btnStable = true ∧
    20000 ≤ 20000 + (2 ^ 32 - 1) ∧ 20000 + (2 ^ 32 - 1) - 20000 < 2 ^ C.tsWidth ∧
    held.pressStart = BitVec.ofNat C.tsWidth 20000 ∧
    (wires false false false false 19999).now = BitVec.ofNat C.tsWidth (20000 + (2 ^ 32 - 1)) := by decide

/-- Each rise and each fall happens: an UPDATE that commits a press, one that commits a release, the two queries, and an INIT
that succeeds in a state whose flags are set. -/
theorem witness_edgeFlagsMoveOnlyOnCommitAndQuery :
    Runs (.update false 60000) running (line .active 0b10 5000 7 true true 10000 60000 true false) (rsp .ok 0) ∧
    Runs (.update true 90000) (line .active 0 0 0 false true 30000 0 false false)
      (line .active 0 0 0 false false 30000 0 false true) (rsp .ok 0) ∧
    Runs .wasPressed held (line .active 0b00 5000 (-3) true true 20000 20000 false true) (rsp .ok 1) ∧
    Runs .wasReleased held (line .active 0b00 5000 (-3) true true 20000 20000 true false) (rsp .ok 1) ∧
    Runs (.init 0b10 true true 250) (line .uninit 0 0 0 false false 0 0 true true)
      (line .active 0b10 250 0 false false 250 250 false false) (rsp .ok 0) := by decide

/-- Other steps between the two queries: a level change, another query, a hardware reset. -/
theorem witness_noNewPressWithoutUpdate :
    let xs : List (Stimulus C) := [⟨.edge, wires true true true true 6000⟩, ⟨.command 0x8 0, Wires.quiet C⟩,
      ⟨.hardwareReset, Wires.quiet C⟩]
    C.legal = true ∧ held.life = .active ∧
      (stateAt held (Wires.quiet C) (⟨.command 0x7 0, Wires.quiet C⟩ :: (xs ++ [⟨.command 0x7 0, Wires.quiet C⟩]))).schedule =
        ⟨.command 0x7 0, Wires.quiet C⟩ :: (xs ++ ⟨.command 0x7 0, Wires.quiet C⟩ :: []) ∧
      ∀ x ∈ xs, ∀ arg, x.event ≠ .command 0x2 arg := by
  refine ⟨by decide, by decide, rfl, ?_⟩
  intro x hx arg
  simp only [List.mem_cons, List.not_mem_nil, or_false] at hx
  rcases hx with rfl | rfl | rfl <;> simp

/-- Two polls that differ, and a third one tick short of the window. -/
theorem witness_unstableButtonNeverCommits :
    let ws := [wires false false true true 20000, wires false false false true 30000, wires false false false true 79999]
    C.legal = true ∧ running.life = .active ∧ (stateAt running (Wires.quiet C) (updates ws)).schedule = updates ws ++ [] ∧
      neverStable running.btnRaw running.btnLastChange ws :=
  ⟨by decide, by decide, by decide, by decide, by decide, by decide, trivial⟩

/-- A press first seen at 10000, seen again one tick before the window ends, and at its end. -/
theorem witness_steadyPressCommitsOnce :
    let r := line .active 0b00 0 0 false false 0 0 false false
    let w := wires false false false true 10000
    let v := wires false false false true 60000
    let ws := [wires false false false true 30000, wires false false false true 59999]
    C.legal = true ∧ r.life = .active ∧ r.btnStable = false ∧ r.btnRaw = false ∧ 0 < C.btnWindow ∧
      (stateAt r (Wires.quiet C) (updates (w :: (ws ++ [v])))).schedule = updates (w :: (ws ++ [v])) ++ [] ∧
      w.btn = false ∧ v.btn = false ∧ (∀ u ∈ ws, u.btn = false ∧ u.now - w.now < C.btnWindow) ∧
      C.btnWindow ≤ v.now - w.now := by decide

/-- An instruction of each list, SET_POSITION with its operand. -/
theorem witness_buttonAndRotaryHalvesAreSeparate :
    Instr.update ∈ [Instr.update, .isPressed, .wasPressed, .wasReleased, .getPressedDuration] ∧
    Instr.tcCcw0001.format = .tc ∧ ∃ value, Instr.setPosition (-5) = .setPosition value := ⟨by decide, by decide, _, rfl⟩

theorem witness_initTakesTheBaselines : State.reset.regs.life = .uninit ∧
    (stateAt (Registers.reset C) (wires true false false true 250) []).wires.attachOk = true := by decide

/-- A refused attach, and an INIT that comes in ACTIVE. -/
theorem witness_initFailureChangesNothing : (stateAt (Registers.reset C) (Wires.quiet C) []).regs.life = .uninit ∧
    (stateAt (Registers.reset C) (Wires.quiet C) []).wires.attachOk = false ∧ running.life ≠ .uninit := by decide

theorem witness_teardownOnlyDetaches : detached.life = .detached := by decide

/-- After TEARDOWN: a level change that would have counted, an INIT the platform would grant, a poll. -/
theorem witness_nothingChangesAfterTeardown :
    let xs : List (Stimulus C) := [⟨.edge, wires true true true true 9000⟩, ⟨.command 0x1 0, wires true true true true 9001⟩,
      ⟨.command 0x2 0, wires true true true true 99000⟩]
    C.legal = true ∧
      (stateAt running (Wires.quiet C) (⟨.command 0xA 0, Wires.quiet C⟩ :: xs)).schedule =
        ⟨.command 0xA 0, Wires.quiet C⟩ :: xs ∧
      ∀ x ∈ xs, x.event ≠ .hardwareReset := by decide

/-- An opcode of each status in a state that gives it. -/
theorem witness_statusFollowsThePriority : C.legal = true ∧
    (before detached ⟨.command 0xC 0, Wires.quiet C⟩).schedule = [⟨.command 0xC 0, Wires.quiet C⟩] ∧
    statusOf 0xC detached.life false = .errOpcode ∧ statusOf 0x1 detached.life false = .errState ∧
    statusOf 0x1 (Registers.reset C).life false = .errAttach ∧ statusOf 0x3 detached.life false = .ok := by decide

/-- A response whose status is not OK, and other wires with the same answer of the platform. -/
theorem witness_errorsLeaveNoTrace :
    exec .wasPressed (stateAt detached (Wires.quiet C) []) =
      .next { stateAt detached (Wires.quiet C) [] with rsp := some { status := .errState, data := 0 } } ∧
    (wires true true true false 77).attachOk = (Wires.quiet C).attachOk ∧ Instr.tcCw1011.format = .tc :=
  ⟨rfl, rfl, rfl⟩

/-- Each clause of the table: reset, a level change, TEARDOWN, an INIT that succeeds, one refused, one out of turn, and
another command. -/
theorem witness_lifecycleMovesAsTheTableSays : C.legal = true ∧ (Registers.reset C).life = .uninit ∧
    (wires true true true true 1).attachOk = true ∧ (Wires.quiet C).attachOk = false ∧ detached.life ≠ .uninit ∧
    (0x2#4 ≠ 0xA ∧ 0x2#4 ≠ 0x1) ∧
    ∀ x ∈ [(⟨.hardwareReset, Wires.quiet C⟩ : Stimulus C), ⟨.edge, Wires.quiet C⟩, ⟨.command 0xA 0, Wires.quiet C⟩,
      ⟨.command 0x1 0, wires true true true true 1⟩, ⟨.command 0x2 0, Wires.quiet C⟩],
      (before (Registers.reset C) x).schedule = [x] := by decide

/-- In DETACHED an INIT, in UNINIT an INIT that the platform refuses. -/
theorem witness_onlyLifecycleStepsChangeRegistersOutsideActive : ∀ r ∈ [detached, Registers.reset C], C.legal = true ∧
    (before r ⟨.command 0x1 0, Wires.quiet C⟩).schedule = [⟨.command 0x1 0, Wires.quiet C⟩] ∧ r.life ≠ .active ∧
    (⟨.command 0x1 0, Wires.quiet C⟩ : Stimulus C).event ≠ .hardwareReset ∧
    (∀ arg, (⟨.command 0x1 0, Wires.quiet C⟩ : Stimulus C).event ≠ .command 0xA arg) ∧
    (r.life = .detached ∨ (Wires.quiet C).attachOk = false) := by
  intro r hr
  refine ⟨by decide, rfl, ?_, by decide, by intro arg; simp, .inr rfl⟩
  simp only [List.mem_cons, List.not_mem_nil, or_false] at hr
  rcases hr with rfl | rfl <;> decide

/-- An EDGE step and a command in ACTIVE. -/
theorem witness_eachRegisterHasOneWriter : C.legal = true ∧ running.life = .active ∧
    ∀ x ∈ [(⟨.edge, wires true true true true 6000⟩ : Stimulus C), ⟨.command 0x5 3, Wires.quiet C⟩],
      (before running x).schedule = [x] := by decide

theorem witness_edgeCommutesWithButtonCommands : C.legal = true ∧ 0x2#4 ∈ [0x2#4, 0x6#4, 0x7#4, 0x8#4, 0x9#4] ∧
    0x9#4 ∈ [0x2#4, 0x6#4, 0x7#4, 0x8#4, 0x9#4] := by decide

/-- The premise of all clauses, and that of the last four. -/
theorem witness_coincidingEdgeComesFirst : (stateAt running (Wires.quiet C) []).cfg.legal = true ∧
    (stateAt running (Wires.quiet C) []).regs.life = .active := by decide

/-- A schedule in which the time counter's value goes down. -/
theorem witness_everyScheduleRunsWhateverItsTimes :
    let s := stateAt running (Wires.quiet C) [⟨.edge, wires true true true true 6000⟩,
      ⟨.command 0x2 0, wires true true true true 5⟩]
    s.cfg.legal = true ∧ s.schedule.map (fun x => x.wires.now.toNat) = [6000, 5] := by decide

/-- Two codes of the lifecycle that are equal. -/
theorem witness_statusAndLifecycleCodes : Lifecycle.active.bits = Lifecycle.active.bits := rfl

/-- An EDGE step, which is no UPDATE, and an UPDATE, which is no EDGE step. -/
theorem witness_baselinesMoveOnlyAsAllowed :
    let x : Stimulus C := ⟨.edge, wires true true true true 6000⟩
    let y : Stimulus C := ⟨.command 0x2 0, wires true true false true 60000⟩
    C.legal = true ∧ (before running x).schedule = [x] ∧ (before running y).schedule = [y] ∧
      x.event ≠ .hardwareReset ∧ y.event ≠ .hardwareReset ∧ (∀ arg, x.event ≠ .command 0x1 arg) ∧
      (∀ arg, y.event ≠ .command 0x1 arg) ∧ (∀ arg, x.event ≠ .command 0x2 arg) ∧ y.event ≠ .edge := by
  refine ⟨by decide, rfl, rfl, by decide, by decide, ?_, ?_, ?_, by decide⟩ <;> intro arg <;> simp

end Sys2Proof.Tests
end

section
/-! PROOF. O54, the single writer of each register (`10_state.md` R22). A step that neither reads nor writes some registers
gives the same end when these registers are replaced before it: `SameUpTo` says so of two outcomes, and each shared
operation of the machine has it under a condition on the replacement. -/

namespace Sys2Proof.Machine

variable {c : Config}

/-! ### Outcomes that agree up to a replacement of registers -/

/-- Two steps from `s` complete with one response, and the registers of the second are those of the first under `e`. -/
def SameUpTo (s : State) (e : Registers s.cfg → Registers s.cfg) (o o' : Host.Outcome State Fault Refusal) : Prop :=
  ∃ r p, o = .next (s.complete r p) ∧ o' = .next (s.complete (e r) p)

section replacement
variable {s : State} {e : Registers s.cfg → Registers s.cfg}

theorem next_complete_inj {r r' : Registers s.cfg} {p p' : Option (Response s.cfg)}
    (h : (.next (s.complete r p) : Host.Outcome State Fault Refusal) = .next (s.complete r' p')) : r = r' ∧ p = p' := by
  simpa [State.complete] using h

/-- The second outcome, from the first as it is known. -/
theorem SameUpTo.next {o o' : Host.Outcome State Fault Refusal} {r : Registers s.cfg} {p : Option (Response s.cfg)}
    (h : SameUpTo s e o o') (ho : o = .next (s.complete r p)) : o' = .next (s.complete (e r) p) := by
  obtain ⟨r', p', h₁, h₂⟩ := h
  obtain ⟨rfl, rfl⟩ := next_complete_inj (ho.symm.trans h₁)
  exact h₂

theorem respond_sameUpTo (r : Registers s.cfg) (st : Status) (d : BitVec s.cfg.rspWidth) :
    SameUpTo s e (respond s r st d) (respond { s with regs := e s.regs } (e r) st d) := ⟨r, _, rfl, rfl⟩

/-- A gated command reads `life` to decide, so the replacement must keep it. -/
theorem respondWhenActive_sameUpTo (hl : (e s.regs).life = s.regs.life) (r : Registers s.cfg)
    (d : BitVec s.cfg.rspWidth) :
    SameUpTo s e (respondWhenActive s r d) (respondWhenActive { s with regs := e s.regs } (e r) d) := by
  by_cases h : s.regs.life = .active
  · exact ⟨_, _, respondWhenActive_active s r d h, respondWhenActive_active { s with regs := e s.regs } _ d (hl.trans h)⟩
  · exact ⟨_, _, respondWhenActive_suppressed s r d h,
      respondWhenActive_suppressed { s with regs := e s.regs } _ d (hl ▸ h)⟩

/-- An EDGE step reads `life` and `lastAccepted` to decide, so the replacement must keep them. -/
theorem edgeStep_sameUpTo (hl : (e s.regs).life = s.regs.life) (ht : (e s.regs).lastAccepted = s.regs.lastAccepted)
    (dir : Direction) (cur : ChannelState)
    (ha : (e s.regs).acceptSample s.wires.now dir cur = e (s.regs.acceptSample s.wires.now dir cur)) :
    SameUpTo s e (edgeStep dir cur s) (edgeStep dir cur { s with regs := e s.regs }) := by
  by_cases h : s.regs.life = .active ∧ filterAccepts s.cfg s.wires.now s.regs.lastAccepted = true
  · refine ⟨_, _, edgeStep_accepted s dir cur h.1 h.2, ?_⟩
    rw [edgeStep_accepted { s with regs := e s.regs } dir cur (hl.trans h.1) (ht ▸ h.2), ← ha]
    rfl
  · exact ⟨_, _, edgeStep_ignored s dir cur h,
      edgeStep_ignored { s with regs := e s.regs } dir cur (by rwa [hl, ht])⟩

end replacement

/-! ### The edge agent: no button register, no `life`, one count of `pos` -/

theorem acceptSample_withButton (r b : Registers c) (now : BitVec c.tsWidth) (dir : Direction) (cur : ChannelState) :
    (r.withButton b).acceptSample now dir cur = (r.acceptSample now dir cur).withButton b := by
  cases dir <;> rfl

theorem edgeStep_withButton (s : State) (b : Registers s.cfg) (dir : Direction) (cur : ChannelState) :
    SameUpTo s (·.withButton b) (edgeStep dir cur s) (edgeStep dir cur { s with regs := s.regs.withButton b }) :=
  edgeStep_sameUpTo rfl rfl dir cur (acceptSample_withButton ..)

theorem count_pos (r : Registers c) (dir : Direction) :
    (r.count dir).pos = r.pos ∨ (r.count dir).pos = r.pos + 1 ∨ (r.count dir).pos = r.pos - 1 := by
  cases dir
  case clockwise => exact .inr (.inl rfl)
  case counterClockwise => exact .inr (.inr rfl)
  case noStep => exact .inl rfl

theorem edgeStep_life_pos {s : State} {dir : Direction} {cur : ChannelState} {r : Registers s.cfg}
    {p : Option (Response s.cfg)} (h : edgeStep dir cur s = .next (s.complete r p)) :
    r.life = s.regs.life ∧ (r.pos = s.regs.pos ∨ r.pos = s.regs.pos + 1 ∨ r.pos = s.regs.pos - 1) := by
  obtain ⟨-, -, ha⟩ | hi := edgeStep_cases s dir cur
  · obtain ⟨rfl, -⟩ := next_complete_inj (h.symm.trans ha)
    exact ⟨by rw [acceptSample_eq], count_pos (s.regs.writeLastAccepted s.wires.now) dir⟩
  · obtain ⟨rfl, -⟩ := next_complete_inj (h.symm.trans hi)
    exact ⟨rfl, .inl rfl⟩

/-! ### UPDATE touches the button half only -/

theorem sampleButton_withGate (r b : Registers c) (raw : Bool) (t : BitVec c.tsWidth) :
    (r.withGate b).sampleButton raw t = (r.sampleButton raw t).withGate b := by
  simp only [sampleButton_eq]; rfl

theorem commitButton_withGate (r b : Registers c) (raw : Bool) (t : BitVec c.tsWidth) :
    (r.withGate b).commitButton raw t = (r.commitButton raw t).withGate b := by
  cases raw <;> rfl

theorem debounceButton_withGate (r b : Registers c) (raw : Bool) (t : BitVec c.tsWidth) :
    (r.withGate b).debounceButton raw t = (r.debounceButton raw t).withGate b := by
  rw [Registers.debounceButton, Registers.debounceButton, apply_ite (Registers.withGate · b), commitButton_withGate]
  rfl

theorem sampleButton_pos (r : Registers c) (raw : Bool) (t : BitVec c.tsWidth) : (r.sampleButton raw t).pos = r.pos := by
  rw [sampleButton_eq]

theorem debounceButton_pos (r : Registers c) (raw : Bool) (t : BitVec c.tsWidth) :
    (r.debounceButton raw t).pos = r.pos := by
  obtain ⟨-, -, h⟩ | ⟨-, h⟩ := debounceButton_cases r raw t <;> rw [h]
  cases raw <;> rfl

/-! ### The host agent: which command stores `pos`, and none but INIT uses the gate registers -/

theorem decodeCommand_format {width : Nat} (op : Opcode) (arg : BitVec width) : (decodeCommand op arg).format = .cmd := by
  unfold decodeCommand; split <;> rfl

/-- Decoding keeps the opcode: encoding the instruction read from `op` gives a word with the opcode `op`. -/
theorem commandOpcode_encodeWord_decodeCommand (op : Opcode) (arg : BitVec c.cntWidth) :
    commandOpcode (encodeWord c (decodeCommand op arg)).2 = op := by
  have bits : ∀ op : Opcode, op = BitVec.ofBool (op.getLsbD 3) ++ BitVec.ofBool (op.getLsbD 2) ++
      BitVec.ofBool (op.getLsbD 1) ++ BitVec.ofBool (op.getLsbD 0) := by decide
  rw [bits op]
  generalize op.getLsbD 3 = x, op.getLsbD 2 = y, op.getLsbD 1 = z, op.getLsbD 0 = w
  cases x <;> cases y <;> cases z <;> cases w
  case false.true.false.true => exact commandOpcode_or 0x5 _
  all_goals simp [decodeCommand, encodeWord, commandOpcode]

/-- The opcode of a command, from its instruction. -/
theorem opcode_of_decodeCommand_eq {op : Opcode} {arg : BitVec c.cntWidth} {i : Instr} (h : decodeCommand op arg = i) :
    op = commandOpcode (encodeWord c i).2 := by
  rw [← h, commandOpcode_encodeWord_decodeCommand]

theorem decodeCommand_eq_setPosition {op : Opcode} {arg : BitVec c.cntWidth} {v : Int}
    (h : decodeCommand op arg = .setPosition v) : op = 0x5 ∧ v = arg.toInt := by
  obtain rfl : op = 0x5 := (opcode_of_decodeCommand_eq h).trans (commandOpcode_or 0x5 _)
  exact ⟨rfl, (Instr.setPosition.inj h).symm⟩

/-- A command other than an INIT in UNINIT neither reads nor writes `prevState` or `lastAccepted`. -/
theorem exec_withGate (s : State) (b : Registers s.cfg) {i : Instr} (hi : i.format = .cmd)
    (hinit : i ≠ .init ∨ s.regs.life ≠ .uninit) :
    SameUpTo s (·.withGate b) (exec i s) (exec i { s with regs := s.regs.withGate b }) := by
  cases i
  case init =>
    have hl : s.regs.life ≠ .uninit := hinit.resolve_left (· rfl)
    exact ⟨_, _, if_pos hl, if_pos hl⟩
  case update =>
    have h := respondWhenActive_sameUpTo (s := s) (e := (·.withGate b)) rfl
      ((s.regs.sampleButton s.wires.samplePressed s.wires.now).debounceButton s.wires.samplePressed s.wires.now) 0
    rwa [← debounceButton_withGate, ← sampleButton_withGate] at h
  case resetPosition | setPosition | wasPressed | wasReleased => exact respondWhenActive_sameUpTo rfl _ _
  case getPosition | isPressed | getPressedDuration | teardown | reserved0000 | reserved1011 | reserved1100 |
      reserved1101 | reserved1110 | reserved1111 => exact respond_sameUpTo _ _ _
  all_goals exact absurd hi (by decide)

theorem respondWhenActive_regs {s : State} {r r' : Registers s.cfg} {d : BitVec s.cfg.rspWidth}
    {p : Option (Response s.cfg)} (h : respondWhenActive s r' d = .next (s.complete r p)) : r = r' ∨ r = s.regs := by
  obtain ⟨-, hr⟩ | ⟨-, hr⟩ := respondWhenActive_cases s r' d
  · exact .inl (next_complete_inj (h.symm.trans hr)).1
  · exact .inr (next_complete_inj (h.symm.trans hr)).1

theorem execInit_pos {s : State} {r : Registers s.cfg} {p : Option (Response s.cfg)}
    (h : execInit s = .next (s.complete r p)) : r.pos = s.regs.pos := by
  obtain ⟨-, -, hr⟩ | ⟨-, -, hr⟩ | ⟨-, hr⟩ := execInit_cases s <;>
    (obtain ⟨rfl, -⟩ := next_complete_inj (h.symm.trans hr); rfl)

/-- Only RESET_POSITION and SET_POSITION store `pos`, and each stores it whole. -/
theorem exec_command_pos {s : State} {i : Instr} (hi : i.format = .cmd) {r : Registers s.cfg}
    {p : Option (Response s.cfg)} (h : exec i s = .next (s.complete r p)) :
    r.pos = s.regs.pos ∨ (i = .resetPosition ∧ r.pos = 0) ∨ ∃ v, i = .setPosition v ∧ r.pos = operandBits s.cfg v := by
  cases i
  case init => exact .inl (execInit_pos h)
  case update =>
    left
    obtain rfl | rfl := respondWhenActive_regs h
    · exact (debounceButton_pos ..).trans (sampleButton_pos ..)
    · rfl
  case resetPosition =>
    obtain rfl | rfl := respondWhenActive_regs h
    · exact .inr (.inl ⟨rfl, rfl⟩)
    · exact .inl rfl
  case setPosition v =>
    obtain rfl | rfl := respondWhenActive_regs h
    · exact .inr (.inr ⟨v, rfl, rfl⟩)
    · exact .inl rfl
  case wasPressed | wasReleased =>
    obtain rfl | rfl := respondWhenActive_regs h <;> exact .inl rfl
  case getPosition | isPressed | getPressedDuration | teardown | reserved0000 | reserved1011 | reserved1100 |
      reserved1101 | reserved1110 | reserved1111 =>
    obtain ⟨rfl, -⟩ := next_complete_inj h
    exact .inl rfl
  all_goals exact absurd hi (by decide)

/-- `exec_command_pos` in terms of the opcode and the operand presented. -/
theorem command_pos {s : State} {op : Opcode} {arg : BitVec s.cfg.cntWidth} {r : Registers s.cfg}
    {p : Option (Response s.cfg)} (h : exec (decodeCommand op arg) s = .next (s.complete r p)) :
    r.pos = s.regs.pos ∨ (op = 0x4 ∧ r.pos = 0) ∨ (op = 0x5 ∧ r.pos = arg) := by
  obtain hk | ⟨hd, h0⟩ | ⟨v, hd, hv⟩ := exec_command_pos (decodeCommand_format op arg) h
  · exact .inl hk
  · exact .inr (.inl ⟨opcode_of_decodeCommand_eq hd, h0⟩)
  · obtain ⟨rfl, rfl⟩ := decodeCommand_eq_setPosition hd
    exact .inr (.inr ⟨rfl, hv.trans BitVec.ofInt_toInt⟩)

/-! ### The step, and the obligation -/

/-- A step from `s` with its registers replaced by `e`, when serving the stimulus agrees up to `e`. -/
theorem step_of_sameUpTo {s : State} {e : Registers s.cfg → Registers s.cfg} {x : Stimulus s.cfg}
    {rest : List (Stimulus s.cfg)} (hc : s.cfg.legal = true) (hs : s.schedule = x :: rest) {r : Registers s.cfg}
    {p : Option (Response s.cfg)} (hr : serve s x rest = .next ((s.serving x rest).complete r p))
    (h : SameUpTo (s.serving x rest) e (serve s x rest) (serve { s with regs := e s.regs } x rest)) :
    step { s with regs := e s.regs } = .next { s with regs := e r, wires := x.wires, schedule := rest, rsp := p } :=
  (step_cons (s := { s with regs := e s.regs }) hc hs).trans (h.next hr)

/-- Settles O54: each clause is what the agent that moves does to `pos` (`edgeStep_life_pos`, `command_pos`) and that it
does not see the registers replaced (`edgeStep_withButton`, `exec_withGate`). -/
theorem eachRegisterHasOneWriter : Obligations.EachRegisterHasOneWriter := by
  unfold Obligations.EachRegisterHasOneWriter
  intro s ⟨event, w⟩ rest b hc hs
  obtain ⟨r, p, hr⟩ := serve_completes ⟨event, w⟩ rest
  refine ⟨r, p, (step_cons hc hs).trans hr, ?edge, ?command⟩
  case edge =>
    rintro rfl
    obtain ⟨hl, hp⟩ := edgeStep_life_pos ((serve_edge w rest).symm.trans hr)
    refine ⟨hl, hp, step_of_sameUpTo (e := (·.withButton b)) hc hs hr ?_⟩
    rw [serve_edge, serve_edge]
    exact edgeStep_withButton (s.serving _ rest) b _ _
  case command =>
    rintro op arg rfl
    refine ⟨command_pos hr, fun hinit => step_of_sameUpTo (e := (·.withGate b)) hc hs hr ?_⟩
    exact exec_withGate (s.serving _ rest) b (decodeCommand_format op arg)
      (hinit.imp_left (mt opcode_of_decodeCommand_eq))

end Sys2Proof.Machine
end

section
/-! PROOF. O19 and O20, the rows of the TransitionCode map that count (`40_quadrature_state_machine.md` R48, R49). An
accepted sample leaves `afterSample` with the counter that `count` gives for the row's direction; the codes and their
classification are finite facts. -/

namespace Sys2Proof.Machine

variable (s : State)

/-! ### The four counting rows are EDGE steps -/

theorem exec_tcCw1011 : exec .tcCw1011 s = edgeStep .clockwise 0b11 s := rfl

theorem exec_tcCw0100 : exec .tcCw0100 s = edgeStep .clockwise 0b00 s := rfl

theorem exec_tcCcw1110 : exec .tcCcw1110 s = edgeStep .counterClockwise 0b10 s := rfl

theorem exec_tcCcw0001 : exec .tcCcw0001 s = edgeStep .counterClockwise 0b01 s := rfl

/-! ### What an accepted sample leaves -/

section accepted
variable {s} (hl : s.regs.life = .active) (hi : s.cfg.rotInterval ≤ s.wires.now - s.regs.lastAccepted)
include hl hi

/-- The whole next state of an accepted sample, with the interval as R54 compares it. -/
theorem edgeStep_eq_afterSample (dir : Direction) (cur : ChannelState) :
    edgeStep dir cur s = .next (s.afterSample (s.regs.count dir).pos cur) := by
  have ha : filterAccepts s.cfg s.wires.now s.regs.lastAccepted = true := (filterAccepts_eq_true ..).mpr hi
  rw [edgeStep_accepted s dir cur hl ha, acceptSample_eq]
  cases dir <;> rfl

/-- An accepted sample counts by its direction and writes no flag. -/
theorem edgeStep_counts_keeps_flags (dir : Direction) (cur : ChannelState) :
    ∃ r, edgeStep dir cur s = .next { s with regs := r, rsp := none } ∧ r.pos = (s.regs.count dir).pos ∧
      r.flagPressed = s.regs.flagPressed ∧ r.flagReleased = s.regs.flagReleased :=
  ⟨_, edgeStep_eq_afterSample hl hi dir cur, rfl, rfl, rfl⟩

end accepted

/-! ### The obligations -/

/-- Settles O19: both rows are EDGE steps of direction Clockwise (`edgeStep_counts_keeps_flags`), whose count is INC. -/
theorem clockwiseCodesIncrement : Obligations.ClockwiseCodesIncrement := by
  unfold Obligations.ClockwiseCodesIncrement
  refine ⟨by decide, by decide, by decide, by decide, by decide, by decide, fun s hl hi => ?_⟩
  rw [exec_tcCw1011, exec_tcCw0100]
  exact ⟨edgeStep_counts_keeps_flags hl hi .clockwise 0b11, edgeStep_counts_keeps_flags hl hi .clockwise 0b00⟩

/-- Settles O20: both rows are EDGE steps of direction CounterClockwise (`edgeStep_counts_keeps_flags`), whose count is
DEC. -/
theorem counterClockwiseCodesDecrement : Obligations.CounterClockwiseCodesDecrement := by
  unfold Obligations.CounterClockwiseCodesDecrement
  refine ⟨by decide, by decide, by decide, by decide, by decide, by decide, fun s hl hi => ?_⟩
  rw [exec_tcCcw1110, exec_tcCcw0001]
  exact ⟨edgeStep_counts_keeps_flags hl hi .counterClockwise 0b10,
    edgeStep_counts_keeps_flags hl hi .counterClockwise 0b01⟩

end Sys2Proof.Machine
end

section
/-! PROOF. O34 and O30 to O32, the position counter (`42_position_counter.md`). An EDGE step adds to `pos` and reads it
for nothing else, so it commutes with `shiftPos`, a move of the counter by a constant. The three commands are
GET_POSITION's answer, `dataOfPosition`, and the one gated store of `pos`. -/

namespace Sys2Proof.Machine

variable {c : Config}

/-! ### An EDGE step of a shifted counter -/

/-- `r` with the counter moved by `k`. -/
def Registers.shiftPos (k : BitVec c.cntWidth) (r : Registers c) : Registers c := r.writePos (r.pos + k)

/-- The shift that takes the counter from `p` to `v`, as the record it leaves. -/
theorem shiftPos_sub (r : Registers c) (v p : BitVec c.cntWidth) :
    r.shiftPos (v - p) = { r with pos := v + (r.pos - p) } :=
  congrArg r.writePos (add_sub_left_comm ..)

/-- The shift that takes the counter of `r` to `v`. -/
theorem shiftPos_sub_self (r : Registers c) (v : BitVec c.cntWidth) : r.shiftPos (v - r.pos) = { r with pos := v } :=
  congrArg r.writePos (add_sub_cancel ..)

/-- Counting adds a constant to `pos`, so a shift before it is the same shift after it. -/
theorem count_shiftPos (r : Registers c) (k : BitVec c.cntWidth) (dir : Direction) :
    (r.shiftPos k).count dir = (r.count dir).shiftPos k := by
  cases dir
  case clockwise => exact congrArg r.writePos (add_right_comm ..)
  case counterClockwise => exact congrArg r.writePos (add_sub_right_comm ..)
  case noStep => rfl

theorem acceptSample_shiftPos (r : Registers c) (k : BitVec c.cntWidth) (now : BitVec c.tsWidth) (dir : Direction)
    (cur : ChannelState) : (r.shiftPos k).acceptSample now dir cur = (r.acceptSample now dir cur).shiftPos k :=
  congrArg (·.writePrevState cur) (count_shiftPos (r.writeLastAccepted now) k dir)

theorem edgeStep_shiftPos (s : State) (k : BitVec s.cfg.cntWidth) (dir : Direction) (cur : ChannelState) :
    SameUpTo s (·.shiftPos k) (edgeStep dir cur s) (edgeStep dir cur { s with regs := s.regs.shiftPos k }) :=
  edgeStep_sameUpTo rfl rfl dir cur (acceptSample_shiftPos ..)

theorem decodeCode_format (code : TransitionCode) : (decodeCode code).format = .tc := by
  revert code; decide

/-- Settles O34: an EDGE step moves `pos` by at most one (`edgeStep_life_pos`) and does the same from a shifted counter
(`edgeStep_shiftPos`); of the commands only RESET_POSITION and SET_POSITION store it (`command_pos`). -/
theorem counterChangesOnlyAsAllowed : Obligations.CounterChangesOnlyAsAllowed := by
  unfold Obligations.CounterChangesOnlyAsAllowed
  refine ⟨decodeCode_format, fun _ => decodeCommand_format, ?_⟩
  intro s ⟨event, w⟩ rest hc hs _
  obtain ⟨r, p, hr⟩ := serve_completes ⟨event, w⟩ rest
  refine ⟨r, p, (step_cons hc hs).trans hr, ?edge, ?command⟩
  case edge =>
    rintro rfl
    refine ⟨(edgeStep_life_pos ((serve_edge w rest).symm.trans hr)).2, fun v => ?_⟩
    rw [← shiftPos_sub_self, ← shiftPos_sub (c := s.cfg) r]
    refine step_of_sameUpTo (e := (·.shiftPos (v - s.regs.pos))) hc hs hr ?_
    rw [serve_edge, serve_edge]
    exact edgeStep_shiftPos (s.serving _ rest) _ _ _
  case command =>
    rintro op arg rfl hne
    exact (command_pos (s := s.serving _ rest) hr).resolve_left hne

/-! ### What the three commands do -/

/-- The response is at least as wide as the counter, so sign extension keeps the value (`30_encoding.md` R42). -/
theorem toInt_dataOfPosition (c : Config) (v : BitVec c.cntWidth) : (dataOfPosition c v).toInt = v.toInt :=
  BitVec.toInt_signExtend_of_le (Nat.le_max_left ..)

theorem dataOfPosition_zero (c : Config) : dataOfPosition c 0 = 0 :=
  BitVec.eq_of_toInt_eq (by simp [toInt_dataOfPosition])

theorem exec_getPosition (s : State) :
    exec .getPosition s = .next { s with rsp := some { status := .ok, data := dataOfPosition s.cfg s.regs.pos } } := rfl

theorem exec_resetPosition (s : State) : exec .resetPosition s = respondWhenActive s (s.regs.writePos 0) 0 := rfl

theorem exec_setPosition_toInt (s : State) (v : BitVec s.cfg.cntWidth) :
    exec (.setPosition v.toInt) s = respondWhenActive s (s.regs.writePos v) 0 :=
  congrArg (fun v => respondWhenActive s (s.regs.writePos v) 0) BitVec.ofInt_toInt

/-! ### The obligations -/

/-- Settles O30: the answer is the sign-extended counter (`toInt_dataOfPosition`), which the invariant keeps at
`INIT_POS` in UNINIT. -/
theorem getPositionReturnsTheCounter : Obligations.GetPositionReturnsTheCounter := by
  unfold Obligations.GetPositionReturnsTheCounter
  refine ⟨fun _ _ => rfl, fun s => ⟨_, exec_getPosition s, toInt_dataOfPosition _ _, ?_⟩⟩
  rintro ⟨-, hreset⟩ hl
  rw [toInt_dataOfPosition, hreset hl, Registers.reset]

/-- Settles O31: the gated store of 0, and the answer of GET_POSITION for 0 (`dataOfPosition_zero`). -/
theorem resetPositionZeroesTheCounter : Obligations.ResetPositionZeroesTheCounter := by
  unfold Obligations.ResetPositionZeroesTheCounter
  refine ⟨fun _ _ => rfl, fun s => ⟨fun hl => ⟨?store, ?read⟩, fun hl => ?suppressed⟩⟩
  case store => exact (exec_resetPosition s).trans (respondWhenActive_active s _ _ hl)
  case read => rw [exec_getPosition, dataOfPosition_zero]
  case suppressed => exact (exec_resetPosition s).trans (respondWhenActive_suppressed s _ _ hl)

/-- Settles O32: the gated store of the operand; GET_POSITION answers it (`toInt_dataOfPosition`) and an accepted sample
counts from it (`edgeStep_counts_keeps_flags`). -/
theorem setPositionStoresItsOperand : Obligations.SetPositionStoresItsOperand := by
  unfold Obligations.SetPositionStoresItsOperand
  refine ⟨fun _ _ => rfl, fun s v => ⟨fun hl => ⟨?store, ?read, fun hi => ?count⟩, fun hl => ?suppressed⟩⟩
  case store => exact (exec_setPosition_toInt s v).trans (respondWhenActive_active s _ _ hl)
  case read => exact ⟨_, exec_getPosition _, toInt_dataOfPosition _ v⟩
  case count =>
    rw [exec_tcCw1011]
    obtain ⟨r, hr, hpos, -, -⟩ := edgeStep_counts_keeps_flags
      (s := { s with regs := { s.regs with pos := v }, rsp := some { status := .ok, data := 0 } }) hl hi .clockwise 0b11
    exact ⟨r, hr, hpos⟩
  case suppressed => exact (exec_setPosition_toInt s v).trans (respondWhenActive_suppressed s _ _ hl)

end Sys2Proof.Machine
end

section
/-! PROOF. O44, O36 and O37, the button block (`43_button_edge_detector.md`). The two halves of the register file are
separate in the sense of `SameUpTo`: the button commands commute with a replacement of the rotary half, the EDGE rows and
the position commands with one of the button half. The answers of IS_PRESSED and WAS_PRESSED are one bit, zero-extended. -/

namespace Sys2Proof.Machine

variable {c : Config}

/-! ### The button commands do not see the rotary half -/

/-- UPDATE does not see the counter: steps 1 to 3 commute with a store of it. -/
theorem debounceButton_sampleButton_writePos (r : Registers c) (v : BitVec c.cntWidth) (raw : Bool)
    (t : BitVec c.tsWidth) :
    ((r.writePos v).sampleButton raw t).debounceButton raw t =
      ((r.sampleButton raw t).debounceButton raw t).writePos v := by
  simp only [sampleButton_eq, Registers.debounceButton, apply_ite (Registers.writePos · v)]
  cases raw <;> rfl

/-- The rotary half is the gate registers and the counter, so UPDATE does not see it. -/
theorem debounceButton_sampleButton_withRotary (r b : Registers c) (raw : Bool) (t : BitVec c.tsWidth) :
    ((r.withRotary b).sampleButton raw t).debounceButton raw t =
      ((r.sampleButton raw t).debounceButton raw t).withRotary b := calc
  _ = (((r.withGate b).sampleButton raw t).debounceButton raw t).writePos b.pos :=
    debounceButton_sampleButton_writePos ..
  _ = _ := by rw [sampleButton_withGate, debounceButton_withGate]; rfl

theorem execUpdate_withRotary (s : State) (b : Registers s.cfg) :
    SameUpTo s (·.withRotary b) (execUpdate s) (execUpdate { s with regs := s.regs.withRotary b }) := by
  have h := respondWhenActive_sameUpTo (s := s) (e := (·.withRotary b)) rfl
    ((s.regs.sampleButton s.wires.samplePressed s.wires.now).debounceButton s.wires.samplePressed s.wires.now) 0
  rwa [← debounceButton_sampleButton_withRotary] at h

/-- UPDATE and the four queries neither read nor write `prevState`, `lastAccepted` and `pos`. -/
theorem buttonCommand_withRotary (s : State) (b : Registers s.cfg) :
    ∀ i ∈ [Instr.update, .isPressed, .wasPressed, .wasReleased, .getPressedDuration],
      SameUpTo s (·.withRotary b) (exec i s) (exec i { s with regs := s.regs.withRotary b }) := by
  simp only [List.forall_mem_cons]
  refine ⟨execUpdate_withRotary s b, ?isPressed, ?wasPressed, ?wasReleased, ?getPressedDuration, List.forall_mem_nil _⟩
  case isPressed | getPressedDuration => exact respond_sameUpTo _ _ _
  case wasPressed | wasReleased => exact respondWhenActive_sameUpTo rfl _ _

/-! ### The EDGE rows and the position commands do not see the button half -/

/-- Every row of the TransitionCode map is an EDGE step of a direction and a ChannelState of its own. -/
theorem exec_eq_edgeStep_of_tc {i : Instr} (hi : i.format = .tc) : ∃ dir cur, ∀ s, exec i s = edgeStep dir cur s := by
  cases i
  case tcNoStep0000 | tcCcw0001 | tcNoStep0010 | tcNoStep0011 | tcCw0100 | tcNoStep0101 | tcNoStep0110 | tcNoStep0111 |
      tcNoStep1000 | tcNoStep1001 | tcNoStep1010 | tcCw1011 | tcNoStep1100 | tcNoStep1101 | tcCcw1110 | tcNoStep1111 =>
    exact ⟨_, _, fun _ => rfl⟩
  all_goals exact nomatch hi

/-- An EDGE step drives no response, and the level of `btn` changes no register it leaves. -/
theorem edgeStep_of_btn_level (s : State) (dir : Direction) (cur : ChannelState) :
    ∃ r, edgeStep dir cur s = .next (s.complete r none) ∧
      ∀ level, edgeStep dir cur { s with wires := { s.wires with btn := level } } =
        .next { s with regs := r, wires := { s.wires with btn := level }, rsp := none } := by
  by_cases h : s.regs.life = .active ∧ filterAccepts s.cfg s.wires.now s.regs.lastAccepted = true
  · exact ⟨_, edgeStep_accepted s dir cur h.1 h.2, fun level => edgeStep_accepted { s with wires := _ } dir cur h.1 h.2⟩
  · exact ⟨_, edgeStep_ignored s dir cur h, fun level => edgeStep_ignored { s with wires := _ } dir cur h⟩

/-- The position commands neither read nor write a button register. -/
theorem positionCommand_withButton (s : State) (b : Registers s.cfg) {i : Instr}
    (hi : i = .getPosition ∨ i = .resetPosition ∨ ∃ value, i = .setPosition value) :
    SameUpTo s (·.withButton b) (exec i s) (exec i { s with regs := s.regs.withButton b }) := by
  obtain rfl | rfl | ⟨value, rfl⟩ := hi
  case inl => exact respond_sameUpTo _ _ _
  case inr.inl | inr.inr => exact respondWhenActive_sameUpTo rfl _ _

/-- Settles O44: the button commands by `buttonCommand_withRotary`, the EDGE rows by `edgeStep_withButton` and
`edgeStep_of_btn_level`, the position commands by `positionCommand_withButton`. -/
theorem buttonAndRotaryHalvesAreSeparate : Obligations.ButtonAndRotaryHalvesAreSeparate := by
  unfold Obligations.ButtonAndRotaryHalvesAreSeparate
  refine fun s b => ⟨buttonCommand_withRotary s b, fun i hi => ?_⟩
  by_cases htc : i.format = .tc
  case pos =>
    obtain ⟨dir, cur, hrow⟩ := exec_eq_edgeStep_of_tc htc
    obtain ⟨r, hr, hlevel⟩ := edgeStep_of_btn_level s dir cur
    simp only [hrow]
    exact ⟨r, none, hr, (edgeStep_withButton s b dir cur).next hr, fun _ => ⟨rfl, hlevel⟩⟩
  case neg =>
    obtain ⟨r, p, hr, hb⟩ := positionCommand_withButton s b (hi.resolve_left htc)
    exact ⟨r, p, hr, hb, fun h => absurd h htc⟩

/-! ### The answers of IS_PRESSED and WAS_PRESSED -/

/-- A one-bit answer is the number 1 or 0 (`30_encoding.md` R42). -/
theorem dataOfBit_eq (c : Config) (b : Bool) : dataOfBit c b = if b then 1 else 0 := by
  cases b
  case false | true => exact BitVec.eq_of_toNat_eq (BitVec.toNat_setWidth ..)

theorem exec_isPressed (s : State) :
    exec .isPressed s =
      .next { s with rsp := some { status := .ok, data := if s.regs.btnStable then 1 else 0 } } :=
  congrArg (respond s s.regs .ok) (dataOfBit_eq ..)

theorem exec_wasPressed (s : State) :
    exec .wasPressed s =
      respondWhenActive s { s.regs with flagPressed := false } (if s.regs.flagPressed then 1 else 0) :=
  congrArg (respondWhenActive s s.regs.consumePressed) (dataOfBit_eq ..)

/-- Settles O36: the answer is `btnStable` as a number (`exec_isPressed`), which the invariant keeps at Released in
UNINIT. -/
theorem isPressedReturnsTheDebouncedState : Obligations.IsPressedReturnsTheDebouncedState := by
  unfold Obligations.IsPressedReturnsTheDebouncedState
  refine ⟨fun _ _ => rfl, fun s => ⟨exec_isPressed s, ?uninit⟩⟩
  rintro ⟨-, hreset⟩ hl
  have hb : s.regs.btnStable = false := by rw [hreset hl, Registers.reset]
  simp [exec_isPressed, hb]

/-- Settles O37: a gated query (`exec_wasPressed`) that answers its flag and clears it; clearing a flag that is clear
changes nothing. -/
theorem wasPressedConsumesItsFlag : Obligations.WasPressedConsumesItsFlag := by
  unfold Obligations.WasPressedConsumesItsFlag
  refine ⟨fun _ _ => rfl, fun s => ?_⟩
  have consumes : s.regs.life = .active → exec .wasPressed s = .next { s with
      regs := { s.regs with flagPressed := false }
      rsp := some { status := .ok, data := if s.regs.flagPressed then 1 else 0 } } :=
    fun hl => (exec_wasPressed s).trans (respondWhenActive_active s _ _ hl)
  refine ⟨consumes, fun hl hf => ?clear, fun hl => ?suppressed⟩
  case clear =>
    have keeps : { s.regs with flagPressed := false } = s.regs := by rw [← hf]
    rw [consumes hl, keeps, hf]
    rfl
  case suppressed => exact (exec_wasPressed s).trans (respondWhenActive_suppressed s _ _ hl)

end Sys2Proof.Machine
end

section
/-! PROOF. O51, the error responses (`60_exceptions.md` R90). A command from `s` is seen as a function of the wires it
is given: it answers OK, or its end is fixed before it looks at any wire but the platform's answer. -/

namespace Sys2Proof.Machine

variable {s : State}

/-- The end of a command from `s`, given the wires: OK with the wires of `s`, or, with any wires on which the platform
answers as on those of `s`, one response and no register changed. -/
def OkOrNoTrace (s : State) (ends : Wires s.cfg → Host.Outcome State Fault Refusal) : Prop :=
  (∃ r d, ends s.wires = .next (s.complete r (some ⟨.ok, d⟩))) ∨
  ∃ p, ∀ w, w.attachOk = s.wires.attachOk → ends w = .next { s with wires := w, rsp := p }

/-- A gated command reads `life` to decide, and no wire; what it writes and answers may depend on the wires, and is used
in ACTIVE only. -/
theorem respondWhenActive_okOrNoTrace (r : Wires s.cfg → Registers s.cfg) (d : Wires s.cfg → BitVec s.cfg.rspWidth) :
    OkOrNoTrace s fun w => respondWhenActive { s with wires := w } (r w) (d w) := by
  by_cases h : s.regs.life = .active
  · exact .inl ⟨_, _, respondWhenActive_active s _ _ h⟩
  · exact .inr ⟨some ⟨.errState, 0⟩, fun w _ => respondWhenActive_suppressed { s with wires := w } _ _ h⟩

/-- A refused INIT was decided by `life` and the platform's answer. -/
theorem execInit_okOrNoTrace : OkOrNoTrace s fun w => execInit { s with wires := w } := by
  obtain ⟨-, -, h⟩ | ⟨hl, ha, -⟩ | ⟨hl, -⟩ := execInit_cases s
  case inl => exact .inl ⟨_, _, h⟩
  case inr.inl =>
    exact .inr ⟨some ⟨.errAttach, 0⟩, fun w hw => (if_neg (not_not.2 hl)).trans (if_pos (hw.trans ha))⟩
  case inr.inr => exact .inr ⟨some ⟨.errState, 0⟩, fun w _ => if_pos hl⟩

theorem exec_okOrNoTrace {i : Instr} (hi : i.format = .cmd) :
    OkOrNoTrace s fun w => exec i { s with wires := w } := by
  cases i
  case init => exact execInit_okOrNoTrace
  case update | resetPosition | setPosition | wasPressed | wasReleased => exact respondWhenActive_okOrNoTrace _ _
  case getPosition | isPressed | getPressedDuration | teardown => exact .inl ⟨_, _, rfl⟩
  case reserved0000 | reserved1011 | reserved1100 | reserved1101 | reserved1110 | reserved1111 =>
    exact .inr ⟨some ⟨.errOpcode, 0⟩, fun _ _ => rfl⟩
  all_goals exact nomatch hi

/-- Settles O51: a command answers OK or leaves no trace (`exec_okOrNoTrace`), and an EDGE row drives no response
(`edgeStep_of_btn_level`). -/
theorem errorsLeaveNoTrace : Obligations.ErrorsLeaveNoTrace := by
  unfold Obligations.ErrorsLeaveNoTrace
  intro i s
  cases hi : i.format
  case tc =>
    obtain ⟨dir, cur, hrow⟩ := exec_eq_edgeStep_of_tc hi
    obtain ⟨r, hr, -⟩ := edgeStep_of_btn_level s dir cur
    exact ⟨r, none, (hrow s).trans hr, (fun _ _ h => nomatch h), fun _ => rfl⟩
  case cmd =>
    obtain ⟨r, d, hok⟩ | ⟨p, hsame⟩ := exec_okOrNoTrace (s := s) hi
    · exact ⟨r, some ⟨.ok, d⟩, hok,
        fun _ _ hp hst => absurd (congrArg Response.status (Option.some.inj hp)).symm hst, fun h => nomatch h⟩
    · exact ⟨s.regs, p, hsame s.wires rfl, fun _ _ _ _ => ⟨rfl, hsame⟩, fun h => nomatch h⟩

end Sys2Proof.Machine
end

section
/-! PROOF. O1 to O8 and O59, the encodings (`30_encoding.md` sections 1 to 3). The opcode field of a word selects one
of sixteen rows, named after their commands in `Opcode.byCommand`; a word is its opcode field and its operand field. -/

namespace Sys2Proof

variable {c : Config}

/-! ### Opcodes, row by row -/

/-- A claim about every opcode is a claim about each row of the command map (`30_encoding.md` R41, R44). -/
theorem Opcode.byCommand {motive : Opcode → Prop} (reserved0000 : motive 0x0) (init : motive 0x1) (update : motive 0x2)
    (getPosition : motive 0x3) (resetPosition : motive 0x4) (setPosition : motive 0x5) (isPressed : motive 0x6)
    (wasPressed : motive 0x7) (wasReleased : motive 0x8) (getPressedDuration : motive 0x9) (teardown : motive 0xA)
    (reserved1011 : motive 0xB) (reserved1100 : motive 0xC) (reserved1101 : motive 0xD) (reserved1110 : motive 0xE)
    (reserved1111 : motive 0xF) (op : Opcode) : motive op := by
  obtain ⟨k, hk⟩ := op
  interval_cases k <;> assumption

/-! ### Decoding what was encoded -/

/-- An operand in the range of `sint` comes back from its bit pattern (`30_encoding.md` R42). -/
theorem toInt_ofInt_of_operandFits {value : Int} (hc : c.legal = true) (hv : c.operandFits value = true) :
    (BitVec.ofInt c.cntWidth value).toInt = value := by
  simp only [Config.legal, Config.operandFits, Bool.and_eq_true, decide_eq_true_eq] at hc hv
  exact BitVec.toInt_ofInt_eq_self (by omega) hv.1 hv.2

theorem decodeWord_setPosition {value : Int} (hc : c.legal = true) (hv : c.operandFits value = true) :
    decodeWord c .cmd (0x5 ||| (BitVec.ofInt c.cntWidth value).toNat <<< 4) = .instr (.setPosition value) := calc
  _ = Decoded.instr (decodeCommand (0x5 : Opcode) (BitVec.ofInt c.cntWidth value)) :=
    (decodeWord_cmd (Laws.WordFits.setPosition value c hv)).trans <|
      congrArg₂ (fun op arg => Decoded.instr (decodeCommand op arg)) (commandOpcode_or 0x5 _) (commandOperand_or 0x5 _)
  _ = .instr (.setPosition value) := congrArg (Decoded.instr <| .setPosition ·) (toInt_ofInt_of_operandFits hc hv)

/-- Settles O1: a code or an opcode without operand reads back as its row, and the operand of SET_POSITION fits its
field (`decodeWord_setPosition`). -/
theorem decodeOfEncodeIsTheInstruction : Obligations.DecodeOfEncodeIsTheInstruction := by
  unfold Obligations.DecodeOfEncodeIsTheInstruction
  intro c i hc hi
  cases i <;> dsimp only [encodeWord]
  case setPosition value => exact decodeWord_setPosition hc hi
  case tcNoStep0000 | tcCcw0001 | tcNoStep0010 | tcNoStep0011 | tcCw0100 | tcNoStep0101 | tcNoStep0110 | tcNoStep0111 |
      tcNoStep1000 | tcNoStep1001 | tcNoStep1010 | tcCw1011 | tcNoStep1100 | tcNoStep1101 | tcCcw1110 | tcNoStep1111 =>
    exact decodeWord_tc (Laws.WordFits.lt_width c .tc _ (by decide))
  all_goals exact decodeWord_cmd (Laws.WordFits.lt_width c .cmd _ (by decide))

/-! ### Encoding what was decoded -/

theorem decodeCode_wellFormed (c : Config) (code : TransitionCode) : (decodeCode code).wellFormed c = true := by
  unfold decodeCode; split <;> rfl

theorem decodeCommand_wellFormed (op : Opcode) (arg : BitVec c.cntWidth) :
    (decodeCommand op arg).wellFormed c = true := by
  cases op using Opcode.byCommand
  case setPosition => exact operandFits_toInt c arg
  all_goals rfl

theorem encodeWord_fst (c : Config) (i : Instr) : (encodeWord c i).1 = i.format := by
  cases i <;> rfl

/-- A command without operand is encoded as its opcode. -/
theorem encodeWord_decodeCommand_of_ne {op : Opcode} (arg : BitVec c.cntWidth) (h : op ≠ 0x5) :
    (encodeWord c (decodeCommand op arg)).2 = op.toNat := by
  cases op using Opcode.byCommand
  case setPosition => exact absurd rfl h
  all_goals rfl

/-- A word is its opcode field and, above it, its operand field. -/
theorem opcode_or_operand {width word : Nat} (h : word < 2 ^ (4 + width)) :
    (commandOpcode word).toNat ||| (commandOperand width word).toNat <<< 4 = word := by
  have hq : word >>> 4 < 2 ^ width := by
    rw [Nat.shiftRight_eq_div_pow]
    exact Nat.div_lt_of_lt_mul (Nat.pow_add .. ▸ h)
  rw [commandOpcode_toNat, commandOperand, BitVec.toNat_ofNat, Nat.mod_eq_of_lt hq, Nat.or_comm,
    ← Nat.shiftLeft_add_eq_or_of_lt (Nat.mod_lt word (by decide)), Nat.shiftLeft_eq, Nat.shiftRight_eq_div_pow]
  omega

/-- SET_POSITION is encoded as its opcode with its operand above it. -/
theorem encodeWord_decodeCommand_setPosition (arg : BitVec c.cntWidth) :
    (encodeWord c (decodeCommand 0x5 arg)).2 = (0x5 : Opcode).toNat ||| arg.toNat <<< 4 :=
  congrArg (fun v : BitVec c.cntWidth => (0x5 : Opcode).toNat ||| v.toNat <<< 4) BitVec.ofInt_toInt

/-- Settles O2: a code is the row at which it stands (`encodeWord_decodeCode`); a command word is its two fields
(`opcode_or_operand`), and encoding keeps the opcode, and for SET_POSITION the operand. -/
theorem everyWordDecodesAndReencodesWithoutIgnoredOperand :
    Obligations.EveryWordDecodesAndReencodesWithoutIgnoredOperand := by
  unfold Obligations.EveryWordDecodesAndReencodesWithoutIgnoredOperand
  refine ⟨fun c word hw => ?code, fun c word _ hw => ?command⟩
  case code =>
    refine ⟨_, decodeWord_tc hw, decodeCode_wellFormed c _, ?_⟩
    rw [encodeWord_decodeCode, BitVec.toNat_ofNat, Nat.mod_eq_of_lt hw]
  case command =>
    refine ⟨_, decodeWord_cmd hw, decodeCommand_wellFormed _ _, ?format, ?opcode, fun h => ?operand, fun h => ?none⟩
    case format => rw [encodeWord_fst, Machine.decodeCommand_format]
    case opcode => exact congrArg BitVec.toNat (Machine.commandOpcode_encodeWord_decodeCommand _ _)
    case operand =>
      have h5 : commandOpcode word = 0x5 := BitVec.eq_of_toNat_eq h
      rw [h5, encodeWord_decodeCommand_setPosition, ← h5, opcode_or_operand hw]
    case none => exact encodeWord_decodeCommand_of_ne _ fun h5 => h (congrArg BitVec.toNat h5)

/-- Settles O3: a number outside the width of its format is rejected (`decodeWord_tc_wide`, `decodeWord_cmd_wide`). -/
theorem tooWideWordsAreRejected : Obligations.TooWideWordsAreRejected := by
  unfold Obligations.TooWideWordsAreRejected
  exact fun c word => ⟨fun h => decodeWord_tc_wide (Nat.not_lt.mpr h), fun h => decodeWord_cmd_wide (Nat.not_lt.mpr h)⟩

/-- Settles O4: each word, read by the decoder. -/
theorem specWordsDecodeToTheirRows : Obligations.SpecWordsDecodeToTheirRows := by
  unfold Obligations.SpecWordsDecodeToTheirRows
  decide

/-- Settles O5: the fields of a ChannelState and of a TransitionCode, over all their values. -/
theorem codeFieldsArePreviousAndCurrent : Obligations.CodeFieldsArePreviousAndCurrent := by
  unfold Obligations.CodeFieldsArePreviousAndCurrent
  refine ⟨by decide, fun prev cur => ⟨transitionCode_prev prev cur, transitionCode_cur prev cur, ?_⟩⟩
  revert prev cur; decide

/-- Settles O6: the class of a code is read off its two halves, which have sixteen values together. -/
theorem endpointCodesAreThoseThatCount : Obligations.EndpointCodesAreThoseThatCount := by
  unfold Obligations.EndpointCodesAreThoseThatCount
  decide

/-- Settles O7: the classifier over all sixteen pairs. -/
theorem classifierRecognisesExactlyFourPairs : Obligations.ClassifierRecognisesExactlyFourPairs := by
  unfold Obligations.ClassifierRecognisesExactlyFourPairs
  decide

/-- Settles O8: the classifier over all levels of the two wires, and over all pairs in both orders. -/
theorem exchangedWiresMoveTheEndpoints : Obligations.ExchangedWiresMoveTheEndpoints := by
  unfold Obligations.ExchangedWiresMoveTheEndpoints
  decide

/-- Settles O59: the codes written out; each status code is that of one status, and no lifecycle code is shared. -/
theorem statusAndLifecycleCodes : Obligations.StatusAndLifecycleCodes := by
  unfold Obligations.StatusAndLifecycleCodes
  refine ⟨rfl, rfl, rfl, rfl, fun code => ?status, rfl, rfl, rfl, fun life => ?unused, fun a b => ?distinct⟩
  case status =>
    have codes : ∀ code : BitVec 2, code = 0b00 ∨ code = 0b01 ∨ code = 0b10 ∨ code = 0b11 := by decide
    obtain rfl | rfl | rfl | rfl := codes code
    · exact ⟨.ok, rfl, fun st => by cases st <;> decide⟩
    · exact ⟨.errState, rfl, fun st => by cases st <;> decide⟩
    · exact ⟨.errAttach, rfl, fun st => by cases st <;> decide⟩
    · exact ⟨.errOpcode, rfl, fun st => by cases st <;> decide⟩
  case unused => cases life <;> decide
  case distinct => cases a <;> cases b <;> decide

end Sys2Proof
end

section
/-! PROOF. What one step can do, as a relation on the registers, and the statements about one step that follow from it:
O12, O14, O18, O40, O50, O52, O53, O58. -/

namespace Sys2Proof.Machine

variable {c : Config}

/-! ### The moves of the registers -/

/-- The events that write registers whatever `life` is: TEARDOWN, an INIT that attaches, hardware reset
(`44_decoder_top_and_lifecycle.md` R80, R81, R85). -/
def LifecycleEvent (r : Registers c) (w : Wires c) : Event c → Prop
  | .edge => False
  | .command op _ => op = 0xA ∨ (op = 0x1 ∧ r.life = .uninit ∧ w.attachOk = true)
  | .hardwareReset => True

/-- Everything a step can do to registers `r`, given its wires and its event. -/
inductive Moves (r : Registers c) (w : Wires c) : Event c → Registers c → Prop
  /-- Nothing is written: a read, a suppressed command, a rejected sample. -/
  | keep (e : Event c) (quiet : ¬ LifecycleEvent r w e) : Moves r w e r
  | sample (active : r.life = .active) (accepted : c.rotInterval ≤ w.now - r.lastAccepted) :
      Moves r w .edge (r.acceptSample w.now (classify r.prevState w.sampleChannels) w.sampleChannels)
  | attach (arg : BitVec c.cntWidth) (uninit : r.life = .uninit) (ok : w.attachOk = true) :
      Moves r w (.command 0x1 arg) (r.attachAt w)
  | poll (arg : BitVec c.cntWidth) (active : r.life = .active) :
      Moves r w (.command 0x2 arg)
        ((r.sampleButton w.samplePressed w.now).debounceButton w.samplePressed w.now)
  | resetPosition (arg : BitVec c.cntWidth) (active : r.life = .active) : Moves r w (.command 0x4 arg) (r.writePos 0)
  | setPosition (arg : BitVec c.cntWidth) (active : r.life = .active) : Moves r w (.command 0x5 arg) (r.writePos arg)
  | consumePressed (arg : BitVec c.cntWidth) (active : r.life = .active) :
      Moves r w (.command 0x7 arg) r.consumePressed
  | consumeReleased (arg : BitVec c.cntWidth) (active : r.life = .active) :
      Moves r w (.command 0x8 arg) r.consumeReleased
  | detach (arg : BitVec c.cntWidth) : Moves r w (.command 0xA arg) (r.writeLife .detached)
  | reset : Moves r w .hardwareReset (Registers.reset c)

/-- What a step drives on the response port: a command its status, any other event nothing. -/
def Answers (r : Registers c) (w : Wires c) : Event c → Option (Response c) → Prop
  | .command op _, p => ∃ d, p = some { status := statusOf op r.life w.attachOk, data := d }
  | .edge, p => p = none
  | .hardwareReset, p => p = none

/-- The step from `s` for event `e`, on the wires of `s`, completes with a move and an answer. -/
def EndsIn (s : State) (e : Event s.cfg) (o : Host.Outcome State Fault Refusal) : Prop :=
  ∃ r p, o = .next (s.complete r p) ∧ Moves s.regs s.wires e r ∧ Answers s.regs s.wires e p

/-! ### Every event ends in a move -/

section events
variable {s : State}

theorem edgeStep_endsIn :
    EndsIn s .edge (edgeStep (classify s.regs.prevState s.wires.sampleChannels) s.wires.sampleChannels s) := by
  obtain ⟨hl, ha, h⟩ | h := edgeStep_cases s (classify s.regs.prevState s.wires.sampleChannels) s.wires.sampleChannels
  · exact ⟨_, _, h, .sample hl ((filterAccepts_eq_true ..).mp ha), rfl⟩
  · exact ⟨_, _, h, .keep _ id, rfl⟩

theorem respond_endsIn {op : Opcode} {arg : BitVec s.cfg.cntWidth} {r : Registers s.cfg} {st : Status}
    {d : BitVec s.cfg.rspWidth} (hm : Moves s.regs s.wires (.command op arg) r)
    (hst : st = statusOf op s.regs.life s.wires.attachOk) : EndsIn s (.command op arg) (respond s r st d) :=
  ⟨r, _, rfl, hm, d, hst ▸ rfl⟩

/-- The five gated commands respond by `life` alone. -/
theorem statusOf_gated {op : Opcode} (hop : op ∈ [0x2#4, 0x4#4, 0x5#4, 0x7#4, 0x8#4]) (life : Lifecycle) (ok : Bool) :
    statusOf op life ok = if life = .active then .ok else .errState := by
  revert op; cases life <;> cases ok <;> decide

theorem respondWhenActive_endsIn {op : Opcode} {arg : BitVec s.cfg.cntWidth} {r : Registers s.cfg}
    {d : BitVec s.cfg.rspWidth} (hop : op ∈ [0x2#4, 0x4#4, 0x5#4, 0x7#4, 0x8#4])
    (hm : s.regs.life = .active → Moves s.regs s.wires (.command op arg) r) :
    EndsIn s (.command op arg) (respondWhenActive s r d) := by
  have hst := statusOf_gated hop s.regs.life s.wires.attachOk
  have quiet : ¬ LifecycleEvent s.regs s.wires (.command op arg) := by
    rintro (rfl | ⟨rfl, -⟩) <;> exact absurd hop (by decide)
  obtain ⟨hl, h⟩ | ⟨hl, h⟩ := respondWhenActive_cases s r d
  · exact ⟨_, _, h, hm hl, d, by rw [hst, if_pos hl]⟩
  · exact ⟨_, _, h, .keep _ quiet, 0, by rw [hst, if_neg hl]⟩

theorem execInit_endsIn {arg : BitVec s.cfg.cntWidth} : EndsIn s (.command 0x1 arg) (execInit s) := by
  obtain ⟨hl, ha, h⟩ | ⟨hl, ha, h⟩ | ⟨hl, h⟩ := execInit_cases s
  · exact ⟨_, _, h, .attach arg hl ha, 0, by rw [hl, ha]; rfl⟩
  · refine ⟨_, _, h, .keep _ ?_, 0, by rw [hl, ha]; rfl⟩
    simp [LifecycleEvent, ha]
  · refine ⟨_, _, h, .keep _ ?_, 0, ?_⟩
    · simp [LifecycleEvent, hl]
    · simp [statusOf, hl]

/-- A command ends in a move and an answer, row by row of the command map. -/
theorem exec_decodeCommand_endsIn (op : Opcode) (arg : BitVec s.cfg.cntWidth) :
    EndsIn s (.command op arg) (exec (decodeCommand op arg) s) := by
  cases op using Opcode.byCommand
  case init => exact execInit_endsIn
  case update => exact respondWhenActive_endsIn (by decide) (.poll arg)
  case resetPosition => exact respondWhenActive_endsIn (by decide) (.resetPosition arg)
  case setPosition =>
    exact (exec_setPosition_toInt s arg).symm ▸ respondWhenActive_endsIn (by decide) (.setPosition arg)
  case wasPressed => exact respondWhenActive_endsIn (by decide) (.consumePressed arg)
  case wasReleased => exact respondWhenActive_endsIn (by decide) (.consumeReleased arg)
  case teardown => exact respond_endsIn (.detach arg) rfl
  case getPosition | isPressed | getPressedDuration | reserved0000 | reserved1011 | reserved1100 | reserved1101 |
      reserved1110 | reserved1111 =>
    exact respond_endsIn (.keep _ (by simp [LifecycleEvent])) rfl

end events

theorem serve_endsIn {s : State} (x : Stimulus s.cfg) (rest : List (Stimulus s.cfg)) :
    EndsIn (s.serving x rest) x.event (serve s x rest) := by
  obtain ⟨event, w⟩ := x
  cases event
  case edge => rw [serve_edge]; exact edgeStep_endsIn
  case command op arg => exact exec_decodeCommand_endsIn (s := s.serving _ rest) op arg
  case hardwareReset => exact ⟨_, _, rfl, .reset, rfl⟩

/-- Everything a step can do: it serves the next stimulus, moves the registers and answers. -/
theorem step_moves {s : State} {x : Stimulus s.cfg} {rest : List (Stimulus s.cfg)} (hc : s.cfg.legal = true)
    (hs : s.schedule = x :: rest) :
    ∃ r p, step s = .next { s with regs := r, wires := x.wires, schedule := rest, rsp := p } ∧
      Moves s.regs x.wires x.event r ∧ Answers s.regs x.wires x.event p := by
  rw [step_cons hc hs]
  exact serve_endsIn x rest

/-- With nothing left to serve the block holds its registers (log 13). -/
theorem step_nil {s : State} (hc : s.cfg.legal = true) (hs : s.schedule = []) : step s = .next s := by
  rw [step_of_legal hc, serveNext, hs]

/-- A step that is answered was either no step at all, with nothing left to serve, or served the next stimulus. -/
theorem step_eq_next {s t : State} (h : step s = .next t) :
    t = s ∨ ∃ x rest r p, s.schedule = x :: rest ∧
      t = { s with regs := r, wires := x.wires, schedule := rest, rsp := p } ∧ Moves s.regs x.wires x.event r := by
  by_cases hc : s.cfg.legal = true
  case neg => exact nomatch (if_neg hc : step s = _).symm.trans h
  case pos =>
    cases hs : s.schedule with
    | nil => exact .inl (Host.Outcome.next.inj (h.symm.trans (step_nil hc hs)))
    | cons x rest =>
      obtain ⟨r, p, hr, hm, -⟩ := step_moves hc hs
      exact .inr ⟨x, rest, r, p, rfl, Host.Outcome.next.inj (h.symm.trans hr), hm⟩

/-! ### UPDATE as the record it leaves -/

section poll
variable (r : Registers c) (raw : Bool) (t : BitVec c.tsWidth)

/-- The start of the stability window after a poll (`43_button_edge_detector.md` R67 step 1). -/
def Registers.windowStart : BitVec c.tsWidth := if raw = r.btnRaw then r.btnLastChange else t

/-- Whether a poll commits a new debounced state (`43_button_edge_detector.md` R67 step 3). -/
def Registers.commits : Bool := decide (c.btnWindow ≤ t - r.windowStart raw t) && (raw != r.btnStable)

/-- The registers a poll leaves: the six of the button and nothing else. -/
theorem poll_eq :
    (r.sampleButton raw t).debounceButton raw t = { r with
      btnRaw := raw
      btnLastChange := r.windowStart raw t
      btnStable := if r.commits raw t then raw else r.btnStable
      pressStart := if r.commits raw t && raw then t else r.pressStart
      flagPressed := r.flagPressed || (r.commits raw t && raw)
      flagReleased := r.flagReleased || (r.commits raw t && !raw) } := by
  rw [sampleButton_eq, ← Registers.windowStart]
  obtain ⟨hw, hne, h⟩ | ⟨hno, h⟩ :=
    debounceButton_cases { r with btnRaw := raw, btnLastChange := r.windowStart raw t } raw t
  · have hcommits : r.commits raw t = true := by simp [Registers.commits, hw, hne]
    cases raw <;> simp [h, hcommits, commitButton_press, commitButton_release]
  · have hcommits : r.commits raw t = false := by simpa [Registers.commits] using hno
    simp [h, hcommits]

end poll

/-! ### The two edge flags by their sense -/

/-- The flag of a sense: "pressed" for true, "released" for false (`10_state.md` R18, R19). -/
def Registers.edgeFlag (r : Registers c) : Bool → Bool
  | true => r.flagPressed
  | false => r.flagReleased

/-- The query that consumes the flag of a sense: WAS_PRESSED or WAS_RELEASED. -/
def edgeQuery : Bool → Opcode
  | true => 0x7
  | false => 0x8

/-- A poll raises the flag of the sense it commits and keeps the other (`43_button_edge_detector.md` R67). -/
theorem edgeFlag_poll (r : Registers c) (raw pressed : Bool) (t : BitVec c.tsWidth) :
    ((r.sampleButton raw t).debounceButton raw t).edgeFlag pressed =
      (r.edgeFlag pressed || (r.commits raw t && raw == pressed)) := by
  rw [poll_eq]
  cases raw <;> cases pressed <;> rfl

/-! ### What the moves leave unchanged -/

section moves
variable {r r' : Registers c} {w : Wires c} {e : Event c}

theorem Moves.life_of_quiet (h : Moves r w e r') (quiet : ¬ LifecycleEvent r w e) : r'.life = r.life := by
  cases h
  case keep | resetPosition | setPosition | consumePressed | consumeReleased => rfl
  case sample => rw [acceptSample_eq]
  case poll => rw [poll_eq]
  case attach hl ha => exact absurd (.inr ⟨rfl, hl, ha⟩) quiet
  case detach => exact absurd (.inl rfl) quiet
  case reset => exact absurd trivial quiet

/-- Outside ACTIVE only the lifecycle events write a register (decision D11). -/
theorem Moves.eq_of_quiet (h : Moves r w e r') (hl : r.life ≠ .active) (quiet : ¬ LifecycleEvent r w e) : r' = r := by
  cases h
  case keep => rfl
  case sample ha _ | poll ha | resetPosition ha | setPosition ha | consumePressed ha | consumeReleased ha =>
    exact absurd ha hl
  case attach hl ha => exact absurd (.inr ⟨rfl, hl, ha⟩) quiet
  case detach => exact absurd (.inl rfl) quiet
  case reset => exact absurd trivial quiet

theorem Moves.eq_detach (h : Moves r w e r') {arg : BitVec c.cntWidth} (he : e = .command 0xA arg) :
    r' = r.writeLife .detached := by
  cases h
  case detach => rfl
  case keep quiet => exact absurd (.inl rfl) (he ▸ quiet)
  all_goals simp at he

theorem Moves.eq_attachAt (h : Moves r w e r') {arg : BitVec c.cntWidth} (he : e = .command 0x1 arg)
    (hl : r.life = .uninit) (ha : w.attachOk = true) : r' = r.attachAt w := by
  cases h
  case attach => rfl
  case keep quiet => exact absurd (.inr ⟨rfl, hl, ha⟩) (he ▸ quiet)
  all_goals simp at he

theorem Moves.eq_reset (h : Moves r w .hardwareReset r') : r' = Registers.reset c := by
  cases h
  case keep quiet => exact absurd trivial quiet
  case reset => rfl

/-- UNINIT is left by an attach and entered by hardware reset only. -/
theorem Moves.of_uninit (h : Moves r w e r') (hl : r'.life = .uninit) : r' = r ∨ r' = Registers.reset c := by
  cases h
  case keep => exact .inl rfl
  case reset => exact .inr rfl
  case attach | detach => exact nomatch hl
  case sample ha _ => rw [acceptSample_eq] at hl; exact nomatch ha.symm.trans hl
  case poll ha => rw [poll_eq] at hl; exact nomatch ha.symm.trans hl
  case resetPosition ha | setPosition ha | consumePressed ha | consumeReleased ha => exact nomatch ha.symm.trans hl

/-- Once detached, nothing is written until hardware reset (decisions D10, D11). -/
theorem Moves.eq_of_detached (h : Moves r w e r') (hl : r.life = .detached) (he : e ≠ .hardwareReset) : r' = r := by
  cases h
  case keep => rfl
  case reset => exact absurd rfl he
  case detach => rw [Registers.writeLife, ← hl]
  case attach hu _ => exact nomatch hl.symm.trans hu
  case sample ha _ | poll ha | resetPosition ha | setPosition ha | consumePressed ha | consumeReleased ha =>
    exact nomatch hl.symm.trans ha

/-- The button baselines are written by UPDATE, INIT and hardware reset only (`43_button_edge_detector.md` R66). -/
theorem Moves.button_baselines (h : Moves r w e r') (hreset : e ≠ .hardwareReset) (hinit : ∀ arg, e ≠ .command 0x1 arg)
    (hpoll : ∀ arg, e ≠ .command 0x2 arg) :
    r'.btnStable = r.btnStable ∧ r'.btnRaw = r.btnRaw ∧ r'.btnLastChange = r.btnLastChange ∧
      r'.pressStart = r.pressStart := by
  cases h
  case keep | resetPosition | setPosition | consumePressed | consumeReleased | detach => exact ⟨rfl, rfl, rfl, rfl⟩
  case sample => rw [acceptSample_eq]; exact ⟨rfl, rfl, rfl, rfl⟩
  case attach arg _ _ => exact absurd rfl (hinit arg)
  case poll arg _ => exact absurd rfl (hpoll arg)
  case reset => exact absurd rfl hreset

/-- The gate registers are written by EDGE steps, INIT and hardware reset only. -/
theorem Moves.gate_registers (h : Moves r w e r') (hreset : e ≠ .hardwareReset) (hinit : ∀ arg, e ≠ .command 0x1 arg)
    (hedge : e ≠ .edge) : r'.prevState = r.prevState ∧ r'.lastAccepted = r.lastAccepted := by
  cases h
  case keep | resetPosition | setPosition | consumePressed | consumeReleased | detach => exact ⟨rfl, rfl⟩
  case poll => rw [poll_eq]; exact ⟨rfl, rfl⟩
  case sample => exact absurd rfl hedge
  case attach arg _ _ => exact absurd rfl (hinit arg)
  case reset => exact absurd rfl hreset

/-- A flag rises in an UPDATE that commits the state of its sense (`43_button_edge_detector.md` R67). -/
theorem Moves.edgeFlag_rises (h : Moves r w e r') (pressed : Bool) (h0 : r.edgeFlag pressed = false)
    (h1 : r'.edgeFlag pressed = true) :
    (∃ arg, e = .command 0x2 arg) ∧ r.btnStable = !pressed ∧ r'.btnStable = pressed := by
  cases h
  case poll arg _ =>
    have hcommit : r.commits w.samplePressed w.now = true ∧ w.samplePressed = pressed := by
      simpa [edgeFlag_poll, h0] using h1
    rw [poll_eq]
    have hne : w.samplePressed ≠ r.btnStable := by simpa using (Bool.and_eq_true_iff.mp hcommit.1).2
    exact ⟨⟨arg, rfl⟩, Bool.eq_not.mpr (hcommit.2 ▸ hne.symm), (if_pos hcommit.1).trans hcommit.2⟩
  case sample => rw [acceptSample_eq] at h1; cases pressed <;> exact nomatch h0.symm.trans h1
  case attach | reset => cases pressed <;> exact nomatch h1
  case consumePressed =>
    cases pressed
    · exact nomatch h0.symm.trans h1
    · exact nomatch h1
  case consumeReleased =>
    cases pressed
    · exact nomatch h1
    · exact nomatch h0.symm.trans h1
  case keep | resetPosition | setPosition | detach => cases pressed <;> exact nomatch h0.symm.trans h1

/-- A flag falls by its own query, an INIT that attaches (decision D12) or hardware reset. -/
theorem Moves.edgeFlag_falls (h : Moves r w e r') (pressed : Bool) (h1 : r.edgeFlag pressed = true)
    (h0 : r'.edgeFlag pressed = false) :
    (∃ arg, e = .command (edgeQuery pressed) arg ∧ r.life = .active) ∨
    (∃ arg, e = .command 0x1 arg ∧ r.life = .uninit ∧ w.attachOk = true) ∨ e = .hardwareReset := by
  cases h
  case attach arg hu hok => exact .inr (.inl ⟨arg, rfl, hu, hok⟩)
  case reset => exact .inr (.inr rfl)
  case consumePressed arg ha =>
    cases pressed
    · exact nomatch h1.symm.trans h0
    · exact .inl ⟨arg, rfl, ha⟩
  case consumeReleased arg ha =>
    cases pressed
    · exact .inl ⟨arg, rfl, ha⟩
    · exact nomatch h1.symm.trans h0
  case poll => simp [edgeFlag_poll, h1] at h0
  case sample => rw [acceptSample_eq] at h0; cases pressed <;> exact nomatch h1.symm.trans h0
  case keep | resetPosition | setPosition | detach => cases pressed <;> exact nomatch h1.symm.trans h0

theorem Answers.isSome_iff {p : Option (Response c)} (h : Answers r w e p) :
    p.isSome = true ↔ ∃ op arg, e = .command op arg := by
  cases e
  case command op arg =>
    obtain ⟨d, rfl⟩ := h
    exact ⟨fun _ => ⟨op, arg, rfl⟩, fun _ => rfl⟩
  case edge | hardwareReset =>
    obtain rfl : p = none := h
    simp

end moves

/-! ### Obligations about every step -/

/-- Settles O18: a step that ends in UNINIT changed no register or reset them all (`Moves.of_uninit`). -/
theorem everyStepKeepsTheInvariant : Obligations.EveryStepKeepsTheInvariant := by
  unfold Obligations.EveryStepKeepsTheInvariant
  intro s t ⟨hlegal, hreset⟩ hstep
  obtain rfl | ⟨x, rest, r, p, -, rfl, hm⟩ := step_eq_next hstep
  · exact ⟨hlegal, hreset⟩
  · refine ⟨hlegal, fun hl => ?_⟩
    obtain rfl | hr := hm.of_uninit hl
    · exact hreset hl
    · exact hr

/-- Settles O12: every step completes (`step_moves`), and its answer is a response exactly for a command. -/
theorem everyStepCompletes : Obligations.EveryStepCompletes := by
  unfold Obligations.EveryStepCompletes
  intro s x rest hc hs
  obtain ⟨r, p, hr, -, ha⟩ := step_moves hc hs
  exact ⟨r, p, hr, ha.isSome_iff⟩

theorem step_cfg {s t : State} (h : step s = .next t) : t.cfg = s.cfg := by
  obtain rfl | ⟨x, rest, r, p, -, rfl, -⟩ := step_eq_next h <;> rfl

/-- A run that is answered is a first step and a run from there. -/
theorem runSteps_succ_eq_next {k : Nat} {s t : State} (h : runSteps (k + 1) s = .next t) :
    ∃ u, step s = .next u ∧ runSteps k u = .next t := by
  cases hu : step s with
  | next u => exact ⟨u, rfl, runSteps_succ k hu ▸ h⟩
  | fault f => cases f
  | refused e => simp [runSteps, hu] at h

/-- Settles O14, by induction on the number of steps. -/
theorem parametersNeverChange : Obligations.ParametersNeverChange := by
  unfold Obligations.ParametersNeverChange
  intro k
  induction k with
  | zero => intro s t h; rw [← Host.Outcome.next.inj h]
  | succ k ih =>
    intro s t h
    obtain ⟨u, hu, ht⟩ := runSteps_succ_eq_next h
    exact (ih u t ht).trans (step_cfg hu)

/-- Settles O40: the rises and falls of both flags over the moves of a step. -/
theorem edgeFlagsMoveOnlyOnCommitAndQuery : Obligations.EdgeFlagsMoveOnlyOnCommitAndQuery := by
  unfold Obligations.EdgeFlagsMoveOnlyOnCommitAndQuery
  intro s x rest hc hs
  obtain ⟨r, p, hr, hm, -⟩ := step_moves hc hs
  exact ⟨r, p, hr, hm.edgeFlag_rises true, hm.edgeFlag_rises false, hm.edgeFlag_falls true, hm.edgeFlag_falls false⟩

/-- Settles O50: the status is part of the answer of a command (`Answers`). -/
theorem statusFollowsThePriority : Obligations.StatusFollowsThePriority := by
  unfold Obligations.StatusFollowsThePriority
  intro s op arg w rest hc hs
  obtain ⟨r, p, hr, -, d, rfl⟩ := step_moves hc hs
  exact ⟨r, d, hr⟩

/-- Settles O52: the three lifecycle events by what they write, every other event by `Moves.life_of_quiet`. -/
theorem lifecycleMovesAsTheTableSays : Obligations.LifecycleMovesAsTheTableSays := by
  unfold Obligations.LifecycleMovesAsTheTableSays
  intro s ⟨event, w⟩ rest hc hs
  obtain ⟨r, p, hr, hm, -⟩ := step_moves hc hs
  refine ⟨r, p, hr, ?reset, ?edge, fun op arg he => ⟨?detach, ?attach, ?refused, ?other⟩⟩
  case reset => rintro rfl; rw [hm.eq_reset]; rfl
  case edge => rintro rfl; exact hm.life_of_quiet id
  case detach => rintro rfl; rw [hm.eq_detach he]; rfl
  case attach => rintro rfl hl ha; rw [hm.eq_attachAt he hl ha]; rfl
  case refused =>
    rintro rfl hno
    refine hm.life_of_quiet ?_
    obtain rfl : event = _ := he
    rintro (h | ⟨-, hl, ha⟩)
    · exact absurd h (by decide)
    · exact hno.elim (· hl) (fun h => nomatch h.symm.trans ha)
  case other =>
    intro hA h1
    obtain rfl : event = _ := he
    exact hm.life_of_quiet fun h => h.elim hA fun h => h1 h.1

/-- Settles O53: outside ACTIVE an event that is no lifecycle event writes nothing (`Moves.eq_of_quiet`). -/
theorem onlyLifecycleStepsChangeRegistersOutsideActive :
    Obligations.OnlyLifecycleStepsChangeRegistersOutsideActive := by
  unfold Obligations.OnlyLifecycleStepsChangeRegistersOutsideActive
  intro s ⟨event, w⟩ rest hc hs hl hreset hteardown hinit
  obtain ⟨r, p, hr, hm, -⟩ := step_moves hc hs
  have quiet : ¬ LifecycleEvent s.regs w event := by
    cases event
    case edge => exact id
    case hardwareReset => exact absurd rfl hreset
    case command op arg =>
      rintro (rfl | ⟨rfl, hu, ha⟩)
      · exact hteardown arg rfl
      · exact (hinit arg rfl).elim (fun h => nomatch hu.symm.trans h) (fun h => nomatch h.symm.trans ha)
  exact ⟨p, hm.eq_of_quiet hl quiet ▸ hr⟩

/-- Settles O58: the moves that write the button baselines and the gate registers. -/
theorem baselinesMoveOnlyAsAllowed : Obligations.BaselinesMoveOnlyAsAllowed := by
  unfold Obligations.BaselinesMoveOnlyAsAllowed
  intro s x rest hc hs hreset hinit
  obtain ⟨r, p, hr, hm, -⟩ := step_moves hc hs
  exact ⟨r, p, hr, hm.button_baselines hreset hinit, hm.gate_registers hreset hinit⟩

end Sys2Proof.Machine
end

section
/-! PROOF. The instructions and events taken one at a time: O9 to O11, O13, O15 to O17, O33, O35, O38, O39, O45 to O47,
O49. -/

namespace Sys2Proof.Machine

variable {c : Config}

/-! ### From a stimulus to its instruction -/

theorem channelState_getLsbD (ab : ChannelState) : channelState (ab.getLsbD 1) (ab.getLsbD 0) = ab := by
  revert ab; decide

/-- Settles O9: a command line is presented with its opcode, whose operand comes back (`toInt_ofInt_of_operandFits`); an
EDGE line with the levels of its sample. -/
theorem linesSelectTheirInstructions : Obligations.LinesSelectTheirInstructions := by
  unfold Obligations.LinesSelectTheirInstructions
  intro s w ab t x y rest
  refine ⟨?commands, fun value hv hc => ?setPosition, ?edge⟩
  case commands =>
    intro l i hl
    simp only [List.mem_cons, List.not_mem_nil, Prod.mk.injEq, or_false] at hl
    obtain ⟨rfl, rfl⟩ | ⟨rfl, rfl⟩ | ⟨rfl, rfl⟩ | ⟨rfl, rfl⟩ | ⟨rfl, rfl⟩ | ⟨rfl, rfl⟩ | ⟨rfl, rfl⟩ | ⟨rfl, rfl⟩ |
      ⟨rfl, rfl⟩ := hl <;> rfl
  case setPosition =>
    exact congrArg (fun v => exec (.setPosition v) (s.serving (StepLine.stimulus w (.setPosition value)) rest))
      (toInt_ofInt_of_operandFits hc hv)
  case edge =>
    exact congrArg (fun cur => exec (decodeCode (transitionCode s.regs.prevState cur)) _) (channelState_getLsbD ab)

/-- Settles O10: `step_cons` for each agent, and `step_nil`. -/
theorem stepRunsTheSelectedInstruction : Obligations.StepRunsTheSelectedInstruction := by
  unfold Obligations.StepRunsTheSelectedInstruction
  intro s w rest hc
  exact ⟨fun op arg hs => step_cons hc hs, fun hs => step_cons hc hs, step_nil hc⟩

/-- Settles O13: a configuration out of range is not legal. -/
theorem illegalConfigurationIsRefused : Obligations.IllegalConfigurationIsRefused := by
  unfold Obligations.IllegalConfigurationIsRefused
  intro s h
  have hc : ¬ s.cfg.legal = true := by simp only [Config.legal, Bool.and_eq_true, decide_eq_true_eq]; omega
  exact if_neg hc

/-- Settles O15: the step of a hardware reset (`step_cons`) leaves the registers of `Registers.reset`. -/
theorem hardwareResetSetsEveryRegister : Obligations.HardwareResetSetsEveryRegister := by
  unfold Obligations.HardwareResetSetsEveryRegister
  exact fun s w rest hc hs => step_cons hc hs

/-- Settles O16: the values of the reset state, read off. -/
theorem resetStateHoldsTheSpecValues : Obligations.ResetStateHoldsTheSpecValues := by
  unfold Obligations.ResetStateHoldsTheSpecValues
  decide

/-- Settles O17: a constructed machine holds the reset registers. -/
theorem invariantHoldsAtReset : Obligations.InvariantHoldsAtReset := by
  unfold Obligations.InvariantHoldsAtReset
  exact ⟨fun c hc => ⟨hc, fun _ => rfl⟩, rfl, fun _ => rfl⟩

/-! ### Placed words -/

/-- A placed command word is the next stimulus, its step exactly that of its instruction. -/
theorem step_presentCommand (s : State) (word : Nat) (hc : s.cfg.legal = true) :
    step (s.presentCommand word) =
      exec (decodeCommand (commandOpcode word) (commandOperand s.cfg.cntWidth word)) s :=
  step_cons (s := s.presentCommand word) hc rfl

/-- A code is its two halves. -/
theorem transitionCode_prev_cur (code : TransitionCode) : transitionCode code.prev code.cur = code := by
  revert code; decide

/-- A placed code is formed by the next step: `prevState` is its upper half, the sample its lower. -/
theorem step_presentCode (s : State) (code : TransitionCode) (hc : s.cfg.legal = true) :
    step (s.presentCode code) = exec (decodeCode code) { s with
      regs := { s.regs with life := .active, prevState := code.prev }
      wires := { s.wires with
        chA := code.cur.getLsbD 1, chB := code.cur.getLsbD 0, now := s.regs.lastAccepted + s.cfg.rotInterval } } := by
  have hcode : transitionCode code.prev (channelState (code.cur.getLsbD 1) (code.cur.getLsbD 0)) = code := by
    rw [channelState_getLsbD, transitionCode_prev_cur]
  exact (step_cons (s := s.presentCode code) hc rfl).trans (congrArg (fun code => exec (decodeCode code) _) hcode)

theorem decodeTableWord_cmd {word : Nat} (hw : word < 2 ^ 36) :
    decodeTableWord 36 word = some (decodeCommand (commandOpcode word) (commandOperand 32 word)) := by
  rw [decodeTableWord, tableBits, Nat.mod_eq_of_lt hw]
  exact congrArg Decoded.toOption (decodeWord_cmd (c := Config.standard) hw)

theorem decodeTableWord_tc {word : Nat} (hw : word < 2 ^ 4) :
    decodeTableWord 4 word = some (decodeCode (BitVec.ofNat 4 word)) := by
  rw [decodeTableWord, tableBits, Nat.mod_eq_of_lt hw]
  exact congrArg Decoded.toOption (decodeWord_tc (c := Config.standard) hw)

/-- Settles O11: the placed word is within its width, so the decoder reads the instruction that the next step runs
(`step_presentCommand`, `step_presentCode`). -/
theorem fetchedWordRunsItsInstruction : Obligations.FetchedWordRunsItsInstruction := by
  unfold Obligations.FetchedWordRunsItsInstruction
  intro r w q p word
  refine ⟨fun hw => ?command, fun hw => ?code⟩
  case command =>
    refine ⟨_, decodeTableWord_cmd hw, ?_⟩
    exact (congrArg (fun n => step (State.presentCommand ⟨Config.standard, r, w, q, p⟩ n)) (Nat.mod_eq_of_lt hw)).trans
      (step_presentCommand ⟨Config.standard, r, w, q, p⟩ word rfl)
  case code =>
    have hprev : TransitionCode.prev (BitVec.ofNat 4 word) = BitVec.ofNat 2 (word / 4) := by
      revert word; decide
    refine ⟨_, { w with
        chA := (TransitionCode.cur (BitVec.ofNat 4 word)).getLsbD 1
        chB := (TransitionCode.cur (BitVec.ofNat 4 word)).getLsbD 0
        now := r.lastAccepted + Config.standard.rotInterval },
      decodeTableWord_tc hw, add_sub_cancel_left .., ?_⟩
    rw [← hprev]
    exact (congrArg (fun n => step (State.presentCode ⟨Config.standard, r, w, q, p⟩ (BitVec.ofNat 4 n)))
      (Nat.mod_eq_of_lt hw)).trans (step_presentCode ⟨Config.standard, r, w, q, p⟩ (BitVec.ofNat 4 word) rfl)

/-! ### Commands -/

theorem next_complete_congr {s : State} {r r' : Registers s.cfg} (h : r = r') (p : Option (Response s.cfg)) :
    (.next (s.complete r p) : Host.Outcome State Fault Refusal) = .next (s.complete r' p) := by rw [h]

/-- Settles O33: both store the same counter value. -/
theorem resetPositionIsSetPositionZero : Obligations.ResetPositionIsSetPositionZero := by
  unfold Obligations.ResetPositionIsSetPositionZero
  intro s
  have hzero : operandBits s.cfg 0 = 0 := BitVec.ofInt_ofNat ..
  exact congrArg (fun v => respondWhenActive s (s.regs.writePos v) 0) hzero.symm

/-- Settles O35: the gated command of the registers `poll_eq` gives. -/
theorem updateSamplesAndCommits : Obligations.UpdateSamplesAndCommits := by
  unfold Obligations.UpdateSamplesAndCommits
  refine fun s => ⟨fun hl => ?active, fun hl => respondWhenActive_suppressed s _ _ hl⟩
  exact (respondWhenActive_active s _ _ hl).trans (next_complete_congr (poll_eq ..) _)

/-- Settles O38: a gated query that answers its flag as a bit (`dataOfBit_eq`) and clears it. -/
theorem wasReleasedConsumesItsFlag : Obligations.WasReleasedConsumesItsFlag := by
  unfold Obligations.WasReleasedConsumesItsFlag
  refine fun s => ⟨fun hl => ?active, fun hl => respondWhenActive_suppressed s _ _ hl⟩
  rw [← dataOfBit_eq]
  exact respondWhenActive_active s _ _ hl

theorem exec_getPressedDuration (s : State) :
    exec .getPressedDuration s = .next { s with
      rsp := some { status := .ok, data := dataOfTime s.cfg (s.regs.pressedFor s.wires.now) } } := rfl

/-- The response is at least as wide as a time, so zero extension keeps the value (`30_encoding.md` R42). -/
theorem toNat_dataOfTime (c : Config) (t : BitVec c.tsWidth) : (dataOfTime c t).toNat = t.toNat :=
  BitVec.toNat_setWidth_of_le (Nat.le_max_right ..)

/-- Of two real times the counter gives the difference modulo its period. -/
theorem toNat_ofNat_sub_ofNat {width a b : Nat} (h : a ≤ b) :
    (BitVec.ofNat width b - BitVec.ofNat width a).toNat = (b - a) % 2 ^ width := by
  have hsub : BitVec.ofNat width b - BitVec.ofNat width a = BitVec.ofNat width (b - a) := by
    rw [sub_eq_iff_eq_add, ← BitVec.ofNat_add, Nat.sub_add_cancel h]
  rw [hsub, BitVec.toNat_ofNat]

/-- Settles O39: the answer is the zero-extended `pressedFor` (`toNat_dataOfTime`), a difference of times, which is
exact within one period (`toNat_ofNat_sub_ofNat`). -/
theorem pressedDurationIsTheHoldTime : Obligations.PressedDurationIsTheHoldTime := by
  unfold Obligations.PressedDurationIsTheHoldTime
  intro s
  have held : s.regs.btnStable = true →
      (dataOfTime s.cfg (s.regs.pressedFor s.wires.now)).toNat = (s.wires.now - s.regs.pressStart).toNat := fun hb => by
    rw [toNat_dataOfTime, Registers.pressedFor, if_pos hb, tsub]
  refine ⟨_, exec_getPressedDuration s, fun hb => ?released, held, fun pressed now hle hlt hb hp hn => ?real⟩
  case released =>
    refine BitVec.eq_of_toNat_eq ?_
    rw [toNat_dataOfTime, Registers.pressedFor, hb]
    simp
  case real => rw [held hb, hp, hn, toNat_ofNat_sub_ofNat hle, Nat.mod_eq_of_lt hlt]

/-- Settles O45: the attaching case of INIT, with the sample as the concatenation of the levels. -/
theorem initTakesTheBaselines : Obligations.InitTakesTheBaselines := by
  unfold Obligations.InitTakesTheBaselines
  intro s hl ha
  obtain ⟨-, -, h⟩ | ⟨-, hno, -⟩ | ⟨hno, -⟩ := execInit_cases s
  · rw [attachAt_eq, channelState_eq_append] at h
    exact h
  · exact nomatch ha.symm.trans hno
  · exact absurd hl hno

/-- Settles O46: the two other cases of INIT. -/
theorem initFailureChangesNothing : Obligations.InitFailureChangesNothing := by
  unfold Obligations.InitFailureChangesNothing
  intro s
  obtain ⟨hl, ha, -⟩ | ⟨hl, -, h⟩ | ⟨hl, h⟩ := execInit_cases s
  · exact ⟨fun _ hno => absurd (ha.symm.trans hno) (by decide), fun hno => absurd hl hno⟩
  · exact ⟨fun _ _ => h, fun hno => absurd hl hno⟩
  · exact ⟨fun hu => absurd hu hl, fun _ => h⟩

/-- Settles O47: TEARDOWN writes `life`, which in DETACHED has that value already. -/
theorem teardownOnlyDetaches : Obligations.TeardownOnlyDetaches := by
  unfold Obligations.TeardownOnlyDetaches
  intro s
  refine ⟨rfl, fun hl => ?_⟩
  have keeps : s.regs.writeLife .detached = s.regs := by rw [← hl]; rfl
  exact next_complete_congr keeps _

/-- Settles O49: the six rows are one meaning, `reservedOpcode`. -/
theorem reservedOpcodesChangeNothing : Obligations.ReservedOpcodesChangeNothing := by
  unfold Obligations.ReservedOpcodesChangeNothing
  exact fun s => ⟨rfl, rfl, rfl, rfl, rfl, rfl⟩

end Sys2Proof.Machine
end

section
/-! PROOF. The edge path, one step: O21 to O26. A row of the TransitionCode map is the EDGE step of its direction; an
accepted one leaves `afterSample`, any other leaves the registers. -/

namespace Sys2Proof.Machine

variable {c : Config}

/-! ### The rows on an accepted sample, and on any other -/

/-- Settles O21: the four rows are EDGE steps whose count is INC or DEC (`edgeStep_eq_afterSample`). -/
theorem countingRowsWriteThreeRegisters : Obligations.CountingRowsWriteThreeRegisters := by
  unfold Obligations.CountingRowsWriteThreeRegisters
  intro s hl hi
  exact ⟨edgeStep_eq_afterSample hl hi .clockwise 0b11, edgeStep_eq_afterSample hl hi .clockwise 0b00,
    edgeStep_eq_afterSample hl hi .counterClockwise 0b10, edgeStep_eq_afterSample hl hi .counterClockwise 0b01⟩

/-- Settles O22: the twelve rows are EDGE steps that do not count (`edgeStep_eq_afterSample`). -/
theorem noStepRowsOnlyRecordTheSample : Obligations.NoStepRowsOnlyRecordTheSample := by
  unfold Obligations.NoStepRowsOnlyRecordTheSample
  intro s hl hi
  have row : ∀ cur, edgeStep .noStep cur s = .next (s.afterSample s.regs.pos cur) :=
    edgeStep_eq_afterSample hl hi .noStep
  exact ⟨row 0b00, row 0b10, row 0b11, row 0b01, row 0b10, row 0b11, row 0b00, row 0b01, row 0b10, row 0b00, row 0b01,
    row 0b11⟩

theorem edgeStep_of_detached_or_early {s : State}
    (h : s.regs.life ≠ .active ∨ s.wires.now - s.regs.lastAccepted < s.cfg.rotInterval) (dir : Direction)
    (cur : ChannelState) : edgeStep dir cur s = .next (s.complete s.regs none) := by
  refine edgeStep_ignored s dir cur fun ⟨hl, ha⟩ => ?_
  exact h.elim (· hl) (BitVec.not_lt.mpr ((filterAccepts_eq_true ..).mp ha))

/-- Settles O23: every row is an EDGE step (`exec_eq_edgeStep_of_tc`), which the gate and the filter guard. -/
theorem detachedOrEarlySamplesChangeNothing : Obligations.DetachedOrEarlySamplesChangeNothing := by
  unfold Obligations.DetachedOrEarlySamplesChangeNothing
  intro i s hi h
  obtain ⟨dir, cur, hrow⟩ := exec_eq_edgeStep_of_tc hi
  exact (hrow s).trans (edgeStep_of_detached_or_early h dir cur)

/-! ### The pseudocode of EDGE -/

theorem edgeRegisters_of_accepted {r : Registers c} {w : Wires c} (hl : r.life = .active)
    (hi : c.rotInterval ≤ w.now - r.lastAccepted) :
    edgeRegisters r w = r.acceptSample w.now (classify r.prevState w.sampleChannels) w.sampleChannels := by
  rw [edgeRegisters, if_neg (not_not.mpr hl), if_neg (BitVec.not_lt.mpr hi), ← channelState_eq_append, acceptSample_eq]
  rfl

theorem edgeRegisters_of_detached_or_early {r : Registers c} {w : Wires c}
    (h : r.life ≠ .active ∨ w.now - r.lastAccepted < c.rotInterval) : edgeRegisters r w = r := by
  by_cases hl : r.life = .active
  · rw [edgeRegisters, if_neg (not_not.mpr hl), if_pos (h.resolve_left (· hl))]
  · rw [edgeRegisters, if_pos hl]

/-- Everything the pseudocode can do: accept the sample, or leave the registers. -/
theorem edgeRegisters_cases (r : Registers c) (w : Wires c) :
    (r.life = .active ∧ c.rotInterval ≤ w.now - r.lastAccepted ∧
      edgeRegisters r w = r.acceptSample w.now (classify r.prevState w.sampleChannels) w.sampleChannels) ∨
    ((r.life ≠ .active ∨ w.now - r.lastAccepted < c.rotInterval) ∧ edgeRegisters r w = r) := by
  by_cases h : r.life = .active ∧ c.rotInterval ≤ w.now - r.lastAccepted
  · exact .inl ⟨h.1, h.2, edgeRegisters_of_accepted h.1 h.2⟩
  · rw [not_and_or, BitVec.not_le] at h
    exact .inr ⟨h, edgeRegisters_of_detached_or_early h⟩

/-- The step of a level change leaves `edgeRegisters` and drives nothing. -/
theorem step_edge {s : State} {w : Wires s.cfg} {rest : List (Stimulus s.cfg)} (hc : s.cfg.legal = true)
    (hs : s.schedule = ⟨.edge, w⟩ :: rest) :
    step s = .next { s with regs := edgeRegisters s.regs w, wires := w, schedule := rest, rsp := none } := by
  rw [step_cons hc hs, serve_edge]
  obtain ⟨hl, hi, h⟩ | ⟨hno, h⟩ := edgeRegisters_cases s.regs w <;> rw [h]
  · exact edgeStep_accepted (s.serving _ rest) _ _ hl ((filterAccepts_eq_true ..).mpr hi)
  · exact edgeStep_of_detached_or_early (s := s.serving ⟨.edge, w⟩ rest) hno _ _

/-- Settles O24: `step_edge`. -/
theorem edgeStepIsThePseudocode : Obligations.EdgeStepIsThePseudocode := by
  unfold Obligations.EdgeStepIsThePseudocode
  exact fun s w rest hc hs => step_edge hc hs

/-! ### The filter and the counter as numbers -/

/-- Settles O25: the filter compares a difference of times, which is one modulo the period (`toNat_ofNat_sub_ofNat`). -/
theorem filterMeasuresElapsedTimeModuloThePeriod : Obligations.FilterMeasuresElapsedTimeModuloThePeriod := by
  unfold Obligations.FilterMeasuresElapsedTimeModuloThePeriod
  intro c last now h
  rw [filterAccepts_eq_true, BitVec.le_def, toNat_ofNat_sub_ofNat h]

/-- A number in the signed range of a width is its own balanced remainder. -/
theorem bmod_two_pow_of_range {width : Nat} {x : Int} (hw : 0 < width) (hl : -2 ^ (width - 1) ≤ x)
    (hu : x < 2 ^ (width - 1)) : x.bmod (2 ^ width) = x := by
  rw [← BitVec.toInt_ofInt, BitVec.toInt_ofInt_eq_self hw hl hu]

section counter
variable (r : Registers c) (hc : c.legal = true)
include hc

theorem toInt_one_of_legal : (1#c.cntWidth).toInt = 1 := by
  simp only [Config.legal, Bool.and_eq_true, decide_eq_true_eq] at hc
  exact BitVec.toInt_one (by omega)

theorem toInt_inc_pos : r.inc.pos.toInt = (r.pos.toInt + 1).bmod (2 ^ c.cntWidth) := by
  rw [Registers.inc, Registers.writePos_pos, BitVec.toInt_add, toInt_one_of_legal hc]

theorem toInt_dec_pos : r.dec.pos.toInt = (r.pos.toInt - 1).bmod (2 ^ c.cntWidth) := by
  rw [Registers.dec, Registers.writePos_pos, BitVec.toInt_sub, toInt_one_of_legal hc]

end counter

/-- Settles O26: one added or subtracted stays in the signed range except at an extreme, where it is off by one
period. -/
theorem counterWrapsAtTheExtremes : Obligations.CounterWrapsAtTheExtremes := by
  unfold Obligations.CounterWrapsAtTheExtremes
  intro c r hc
  rw [toInt_inc_pos r hc, toInt_dec_pos r hc]
  simp only [Config.legal, Bool.and_eq_true, decide_eq_true_eq] at hc
  have hw : 0 < c.cntWidth := by omega
  have hl := BitVec.le_toInt r.pos
  have hu := BitVec.toInt_lt (x := r.pos)
  have hperiod : ((2 ^ c.cntWidth : Nat) : Int) = 2 * 2 ^ (c.cntWidth - 1) := by
    rw [← pow_succ', Nat.sub_add_cancel hw]; norm_cast
  refine ⟨fun h => ?add, fun h => ?top, fun h => ?sub, fun h => ?bottom⟩
  case add => exact bmod_two_pow_of_range hw (by omega) (by omega)
  case top =>
    rw [← Int.sub_bmod_right, bmod_two_pow_of_range hw (by omega) (by omega)]
    omega
  case sub => exact bmod_two_pow_of_range hw (by omega) (by omega)
  case bottom =>
    rw [← Int.add_bmod_right, bmod_two_pow_of_range hw (by omega) (by omega)]
    omega

end Sys2Proof.Machine
end

section
/-! PROOF. Runs of any length: O57, O48, O41, O42, O43 and O27 to O29. A property of registers and response that every
step of a schedule keeps holds at the end of the run (`runSteps_keeps`). -/

namespace Sys2Proof.Machine

variable {c : Config}

/-! ### Runs, one step at a time -/

theorem step_cons_moves (hc : c.legal = true) (r : Registers c) (w : Wires c) (x : Stimulus c)
    (xs : List (Stimulus c)) (p : Option (Response c)) :
    ∃ r' p', step ⟨c, r, w, x :: xs, p⟩ = .next ⟨c, r', x.wires, xs, p'⟩ ∧ Moves r x.wires x.event r' ∧
      Answers r x.wires x.event p' :=
  step_moves (s := ⟨c, r, w, x :: xs, p⟩) hc rfl

/-- A run of `j + k` steps is a run of `j` and a run of `k` from there. -/
theorem runSteps_add {j : Nat} (k : Nat) {s t : State} (h : runSteps j s = .next t) :
    runSteps (j + k) s = runSteps k t := by
  induction j generalizing s with
  | zero => rw [Nat.zero_add, Host.Outcome.next.inj h]
  | succ j ih =>
    obtain ⟨u, hu, ht⟩ := runSteps_succ_eq_next h
    rw [Nat.succ_add, runSteps_succ _ hu, ih ht]

/-- Every step for a stimulus of `xs` keeps `I`, a property of the registers and the response. -/
def KeptBy (I : Registers c → Option (Response c) → Prop) (xs : List (Stimulus c)) : Prop :=
  ∀ x ∈ xs, ∀ r p r' p', I r p → Moves r x.wires x.event r' → Answers r x.wires x.event p' → I r' p'

/-- What every step keeps holds at the end of a run of any length, which has served that much of the schedule. -/
theorem runSteps_keeps (hc : c.legal = true) {I : Registers c → Option (Response c) → Prop} (k : Nat)
    {xs : List (Stimulus c)} (hkept : KeptBy I (xs.take k)) (r : Registers c) (w : Wires c) (p : Option (Response c))
    (hI : I r p) :
    ∃ r' w' p', runSteps k ⟨c, r, w, xs, p⟩ = .next ⟨c, r', w', xs.drop k, p'⟩ ∧ I r' p' := by
  induction k generalizing xs r w p with
  | zero => exact ⟨r, w, p, rfl, hI⟩
  | succ k ih =>
    cases xs with
    | nil =>
      obtain ⟨r', w', p', hrun, hI'⟩ := ih (xs := []) (by simp [KeptBy]) r w p hI
      exact ⟨r', w', p', by simpa [runSteps_succ k (step_nil (s := ⟨c, r, w, [], p⟩) hc rfl)] using hrun, hI'⟩
    | cons x xs =>
      obtain ⟨r₁, p₁, hstep, hm, ha⟩ := step_cons_moves hc r w x xs p
      rw [runSteps_succ k hstep]
      exact ih (fun y hy => hkept y (List.mem_cons_of_mem x hy)) r₁ x.wires p₁
        (hkept x List.mem_cons_self r p r₁ p₁ hI hm ha)

/-- `runSteps_keeps` for the run that serves the stimuli `xs` and leaves `rest`. -/
theorem runSteps_append_keeps (hc : c.legal = true) {I : Registers c → Option (Response c) → Prop}
    {xs : List (Stimulus c)} (hkept : KeptBy I xs) (rest : List (Stimulus c)) (r : Registers c) (w : Wires c)
    (p : Option (Response c)) (hI : I r p) :
    ∃ r' w' p', runSteps xs.length ⟨c, r, w, xs ++ rest, p⟩ = .next ⟨c, r', w', rest, p'⟩ ∧ I r' p' := by
  have h := runSteps_keeps hc (I := I) xs.length (xs := xs ++ rest) (by rwa [List.take_left]) r w p hI
  rwa [List.drop_left] at h

/-! ### Every schedule runs to its end -/

/-- Any readings of a counter are those of a real time that never decreases: each one a period after the last. -/
theorem timesAgree_all {width : Nat} (nows : List (BitVec width)) : timesAgree nows := by
  suffices h : ∀ bound : Nat, ∃ times : List Nat, (∀ t ∈ times, bound ≤ t) ∧ times.Pairwise (· ≤ ·) ∧
      times.map (BitVec.ofNat width) = nows from (h 0).imp fun _ ⟨_, h⟩ => h
  induction nows with
  | nil => exact fun _ => ⟨[], by simp⟩
  | cons now nows ih =>
    intro bound
    obtain ⟨times, hle, hpair, hmap⟩ := ih (now.toNat + 2 ^ width * bound)
    have hbound : bound ≤ now.toNat + 2 ^ width * bound :=
      Nat.le_add_left_of_le (Nat.le_mul_of_pos_left bound (Nat.two_pow_pos width))
    refine ⟨(now.toNat + 2 ^ width * bound) :: times, ?_, List.pairwise_cons.mpr ⟨hle, hpair⟩, ?_⟩
    · exact List.forall_mem_cons.mpr ⟨hbound, fun t ht => hbound.trans (hle t ht)⟩
    · rw [List.map_cons, hmap]
      congr 1
      exact BitVec.eq_of_toNat_eq (by rw [BitVec.toNat_ofNat, Nat.add_mul_mod_self_left, Nat.mod_eq_of_lt now.isLt])

/-- Settles O57: every step completes (`runSteps_keeps` of the trivial property), and any readings are those of some
real time (`timesAgree_all`). -/
theorem everyScheduleRunsWhateverItsTimes : Obligations.EveryScheduleRunsWhateverItsTimes := by
  unfold Obligations.EveryScheduleRunsWhateverItsTimes
  rintro ⟨c, r, w, xs, p⟩ hc
  obtain ⟨r', w', p', hrun, -⟩ := runSteps_append_keeps (I := fun _ _ => True) hc (fun _ _ _ _ _ _ _ _ _ => trivial)
    [] r w p trivial (xs := xs)
  rw [List.append_nil] at hrun
  exact ⟨⟨r', w', p', hrun⟩, timesAgree_all _⟩

/-! ### After TEARDOWN, and between two queries -/

/-- Settles O48: TEARDOWN enters DETACHED, where no step without a hardware reset writes a register
(`Moves.eq_of_detached`). -/
theorem nothingChangesAfterTeardown : Obligations.NothingChangesAfterTeardown := by
  unfold Obligations.NothingChangesAfterTeardown
  rintro ⟨c, r, w₀, q, p⟩
  dsimp only
  intro w arg xs hc hs hreset k
  obtain ⟨r₁, p₁, hstep, hm, -⟩ := step_cons_moves hc r w₀ ⟨.command 0xA arg, w⟩ xs p
  obtain rfl := hm.eq_detach rfl
  have kept : KeptBy (fun r' _ => r' = r.writeLife .detached) (xs.take k) := by
    rintro x hx _ _ r' _ rfl hm' -
    exact hm'.eq_of_detached rfl (hreset x (List.mem_of_mem_take hx))
  obtain ⟨_, v, p', hrun, rfl⟩ := runSteps_keeps hc k kept _ w p₁ rfl
  exact ⟨v, xs.drop k, p', by rw [hs, runSteps_succ k hstep]; exact hrun⟩

/-- Without UPDATE a clear "pressed" flag stays clear. -/
theorem Moves.flagPressed_stays_clear {r r' : Registers c} {w : Wires c} {e : Event c} (h : Moves r w e r')
    (h0 : r.flagPressed = false) (hpoll : ∀ arg, e ≠ .command 0x2 arg) : r'.flagPressed = false := by
  by_contra h1
  obtain ⟨⟨arg, he⟩, -⟩ := h.edgeFlag_rises true h0 (Bool.eq_true_of_not_eq_false h1)
  exact hpoll arg he

/-- A WAS_PRESSED step leaves the flag clear in ACTIVE, and answers 0 when it was clear. -/
theorem step_wasPressed (hc : c.legal = true) (r : Registers c) (w v : Wires c) (arg : BitVec c.cntWidth)
    (rest : List (Stimulus c)) (p : Option (Response c)) :
    ∃ r' p', step ⟨c, r, w, ⟨.command 0x7 arg, v⟩ :: rest, p⟩ = .next ⟨c, r', v, rest, some p'⟩ ∧
      (r.life = .active → r'.flagPressed = false) ∧ (r.flagPressed = false → p'.data = 0) := by
  have hstep := step_cons (s := ⟨c, r, w, ⟨.command 0x7 arg, v⟩ :: rest, p⟩) hc rfl
  obtain ⟨-, h⟩ | ⟨hl, h⟩ := respondWhenActive_cases ⟨c, r, v, rest, p⟩ r.consumePressed (dataOfBit c r.flagPressed)
  · exact ⟨_, _, hstep.trans h, fun _ => rfl, fun h0 => by rw [h0, dataOfBit_eq]; rfl⟩
  · exact ⟨_, _, hstep.trans h, fun h => absurd h hl, fun _ => rfl⟩

/-- Settles O41: the first query clears the flag, no step between the two raises it (`Moves.flagPressed_stays_clear`),
and the second answers it. -/
theorem noNewPressWithoutUpdate : Obligations.NoNewPressWithoutUpdate := by
  unfold Obligations.NoNewPressWithoutUpdate
  rintro ⟨c, r, w₀, q, p⟩
  dsimp only
  intro w v a b xs rest hc hl hs hpoll
  obtain ⟨r₁, p₁, hfirst, h₁, -⟩ := step_wasPressed hc r w₀ w a (xs ++ ⟨.command 0x7 b, v⟩ :: rest) p
  have kept : KeptBy (fun r _ => r.flagPressed = false) xs :=
    fun x hx _ _ _ _ h0 hm _ => hm.flagPressed_stays_clear h0 (hpoll x hx)
  obtain ⟨r₂, w₂, p₂, hrun, h₂⟩ := runSteps_append_keeps hc kept (⟨.command 0x7 b, v⟩ :: rest) r₁ w p₁ (h₁ hl)
  obtain ⟨r₃, p₃, hlast, -, h₃⟩ := step_wasPressed hc r₂ w₂ v b rest p₂
  refine ⟨r₃, p₃, ?_, h₃ h₂⟩
  rw [hs, runSteps_succ _ hfirst, runSteps_add 1 hrun, runSteps_succ _ hlast, runSteps_zero]

/-! ### Runs of one event -/

/-- When every step for event `e` leaves registers `f` of what it found and its wires, and drives `q`, a run of such
steps leaves the registers folded with `f`. `I` is what the steps need and keep. -/
theorem runSteps_map {e : Event c} {f : Registers c → Wires c → Registers c} {q : Option (Response c)}
    {I : Registers c → Prop} (hkept : ∀ r v, I r → I (f r v))
    (hstep : ∀ r w v rest p, I r → step ⟨c, r, w, ⟨e, v⟩ :: rest, p⟩ = .next ⟨c, f r v, v, rest, q⟩)
    (ws : List (Wires c)) (rest : List (Stimulus c)) (r : Registers c) (w : Wires c) (p : Option (Response c))
    (hI : I r) :
    ∃ w' p', runSteps ws.length ⟨c, r, w, ws.map (⟨e, ·⟩) ++ rest, p⟩ = .next ⟨c, ws.foldl f r, w', rest, p'⟩ ∧
      (ws ≠ [] ∨ p = q → p' = q) := by
  induction ws generalizing r w p with
  | nil => exact ⟨w, p, rfl, by simp⟩
  | cons v ws ih =>
    obtain ⟨w', p', hrun, hq⟩ := ih (f r v) v q (hkept r v hI)
    exact ⟨w', p', (runSteps_succ _ (hstep r w v _ p hI)).trans hrun, fun _ => hq (.inr rfl)⟩

/-- A run of EDGE steps follows the pseudocode of each (`step_edge`). -/
theorem runSteps_edges (hc : c.legal = true) (ws : List (Wires c)) (rest : List (Stimulus c)) (r : Registers c)
    (w : Wires c) (p : Option (Response c)) :
    ∃ w' p', runSteps ws.length ⟨c, r, w, edges ws ++ rest, p⟩ = .next ⟨c, ws.foldl edgeRegisters r, w', rest, p'⟩ ∧
      (ws ≠ [] ∨ p = none → p' = none) :=
  runSteps_map (I := fun _ => True) (fun _ _ _ => trivial)
    (fun r w v rest p _ => step_edge (s := ⟨c, r, w, ⟨.edge, v⟩ :: rest, p⟩) hc rfl) ws rest r w p trivial

/-- The registers a poll leaves in ACTIVE (`43_button_edge_detector.md` R67). -/
def Registers.poll (r : Registers c) (w : Wires c) : Registers c :=
  (r.sampleButton w.samplePressed w.now).debounceButton w.samplePressed w.now

theorem poll_life (r : Registers c) (w : Wires c) : (r.poll w).life = r.life := by
  rw [Registers.poll, poll_eq]

theorem step_update (hc : c.legal = true) (r : Registers c) (w v : Wires c) (rest : List (Stimulus c))
    (p : Option (Response c)) (hl : r.life = .active) :
    step ⟨c, r, w, ⟨.command 0x2 0, v⟩ :: rest, p⟩ = .next ⟨c, r.poll v, v, rest, some ⟨.ok, 0⟩⟩ :=
  (step_cons (s := ⟨c, r, w, ⟨.command 0x2 0, v⟩ :: rest, p⟩) hc rfl).trans
    (respondWhenActive_active ⟨c, r, v, rest, p⟩ _ _ hl)

/-- A run of polls in ACTIVE folds `Registers.poll`. -/
theorem runSteps_updates (hc : c.legal = true) (ws : List (Wires c)) (rest : List (Stimulus c)) (r : Registers c)
    (w : Wires c) (p : Option (Response c)) (hl : r.life = .active) :
    ∃ w' p', runSteps ws.length ⟨c, r, w, updates ws ++ rest, p⟩ =
      .next ⟨c, ws.foldl Registers.poll r, w', rest, p'⟩ := by
  obtain ⟨w', p', hrun, -⟩ := runSteps_map (I := fun r => r.life = .active) (fun r v hl => (poll_life r v).trans hl)
    (step_update hc) ws rest r w p hl
  exact ⟨w', p', hrun⟩

/-! ### Accepted samples are counted -/

/-- The classification of a code is one of three, and says which endpoint codes it is among. -/
theorem classify_cases (prev cur : ChannelState) :
    (classify prev cur = .clockwise ∧ isClockwiseCode (transitionCode prev cur) = true ∧
      isCounterClockwiseCode (transitionCode prev cur) = false) ∨
    (classify prev cur = .counterClockwise ∧ isClockwiseCode (transitionCode prev cur) = false ∧
      isCounterClockwiseCode (transitionCode prev cur) = true) ∨
    (classify prev cur = .noStep ∧ isClockwiseCode (transitionCode prev cur) = false ∧
      isCounterClockwiseCode (transitionCode prev cur) = false) := by
  revert prev cur; decide

/-- The counter after a sequence of samples: plus the Clockwise codes, minus the CounterClockwise codes. -/
def countCodes (pos : BitVec c.cntWidth) (codes : List TransitionCode) : BitVec c.cntWidth :=
  pos + BitVec.ofNat _ (codes.countP isClockwiseCode) - BitVec.ofNat _ (codes.countP isCounterClockwiseCode)

/-- Counting the first code and then the others counts them all. -/
theorem countCodes_cons (r : Registers c) (prev cur : ChannelState) (codes : List TransitionCode) :
    countCodes (r.count (classify prev cur)).pos codes = countCodes r.pos (transitionCode prev cur :: codes) := by
  obtain ⟨hdir, hcw, hccw⟩ | ⟨hdir, hcw, hccw⟩ | ⟨hdir, hcw, hccw⟩ := classify_cases prev cur <;>
    simp only [hdir, countCodes, List.countP_cons, hcw, hccw, Registers.count, Registers.inc, Registers.dec,
      Registers.writePos_pos, BitVec.ofNat_add, if_true, if_false, Bool.false_eq_true]
  · abel
  · abel
  · simp

theorem acceptSample_prevState (r : Registers c) (now : BitVec c.tsWidth) (dir : Direction) (cur : ChannelState) :
    (r.acceptSample now dir cur).prevState = cur := rfl

/-- What a sequence of accepted samples leaves: the codes counted, and the last sample in `prevState`. -/
theorem foldl_edgeRegisters_accepted {r : Registers c} {ws : List (Wires c)} (hl : r.life = .active)
    (hall : allAccepted r.lastAccepted ws) :
    (ws.foldl edgeRegisters r).pos = countCodes r.pos (codesFormed r.prevState ws) ∧
      (ws.foldl edgeRegisters r).prevState = ws.foldl (fun _ w => w.sampleChannels) r.prevState := by
  induction ws generalizing r with
  | nil => exact ⟨by simp [countCodes, codesFormed], rfl⟩
  | cons w ws ih =>
    obtain ⟨hi, hall⟩ := hall
    rw [List.foldl_cons, edgeRegisters_of_accepted hl hi]
    obtain ⟨hpos, hprev⟩ := ih (r := r.acceptSample w.now (classify r.prevState w.sampleChannels) w.sampleChannels)
      (by rw [acceptSample_eq, hl]) (by rwa [acceptSample_eq])
    refine ⟨hpos.trans ?_, hprev.trans (by rw [acceptSample_eq]; rfl)⟩
    rw [acceptSample_prevState]
    exact countCodes_cons (r.writeLastAccepted w.now) ..

/-- Settles O27: the run folds the pseudocode of EDGE over the samples (`runSteps_edges`), which counts their codes. -/
theorem acceptedRotationIsCountedExactly : Obligations.AcceptedRotationIsCountedExactly := by
  unfold Obligations.AcceptedRotationIsCountedExactly
  rintro ⟨c, r, w₀, q, p⟩
  dsimp only
  intro ws rest hc hl hs hall
  obtain ⟨w', p', hrun, -⟩ := runSteps_edges hc ws rest r w₀ p
  exact ⟨_, w', p', by rw [hs]; exact hrun, (foldl_edgeRegisters_accepted hl hall).1⟩

/-- Four accepted samples with given codes: the run, the count and the state recorded. -/
theorem runSteps_four_accepted (hc : c.legal = true) {r : Registers c} (w₀ : Wires c) (p : Option (Response c))
    (hl : r.life = .active) (w1 w2 w3 w4 : Wires c) (hall : allAccepted r.lastAccepted [w1, w2, w3, w4]) :
    ∃ r' w', runSteps 4 ⟨c, r, w₀, edges [w1, w2, w3, w4], p⟩ = .next ⟨c, r', w', [], none⟩ ∧
      r'.pos = countCodes r.pos (codesFormed r.prevState [w1, w2, w3, w4]) ∧ r'.prevState = w4.sampleChannels := by
  obtain ⟨w', p', hrun, hp⟩ := runSteps_edges hc [w1, w2, w3, w4] [] r w₀ p
  obtain rfl : p' = none := hp (.inl (List.cons_ne_nil _ _))
  exact ⟨_, w', hrun, foldl_edgeRegisters_accepted hl hall⟩

/-- Settles O28: the codes of the cycle hold two Clockwise and no CounterClockwise endpoint, those of the opposite cycle
the reverse. -/
theorem fullCycleCountsTwo : Obligations.FullCycleCountsTwo := by
  unfold Obligations.FullCycleCountsTwo
  rintro ⟨c, r, w₀, q, p⟩
  dsimp only
  intro w1 w2 w3 w4 hc hl hprev hs hall
  obtain ⟨r', w', hrun, hpos, hlast⟩ := runSteps_four_accepted hc w₀ p hl w1 w2 w3 w4 hall
  rw [hs]
  constructor
  · intro h1 h2 h3 h4
    refine ⟨r', w', hrun, ?_, hlast.trans h4⟩
    have codes : codesFormed r.prevState [w1, w2, w3, w4] = [0x2#4, 0xB#4, 0xD#4, 0x4#4] := by
      simp only [codesFormed, hprev, h1, h2, h3, h4]; rfl
    rw [hpos, codes]
    exact sub_zero _
  · intro h1 h2 h3 h4
    refine ⟨r', w', hrun, ?_, hlast.trans h4⟩
    have codes : codesFormed r.prevState [w1, w2, w3, w4] = [0x1#4, 0x7#4, 0xE#4, 0x8#4] := by
      simp only [codesFormed, hprev, h1, h2, h3, h4]; rfl
    rw [hpos, codes]
    exact congrArg (· - 2) (add_zero _)

/-! ### A burst of samples -/

/-- Samples earlier than the interval after the last accepted one leave the registers. -/
theorem foldl_edgeRegisters_early {r : Registers c} {ws : List (Wires c)}
    (h : ∀ w ∈ ws, w.now - r.lastAccepted < c.rotInterval) : ws.foldl edgeRegisters r = r := by
  induction ws with
  | nil => rfl
  | cons w ws ih =>
    rw [List.foldl_cons, edgeRegisters_of_detached_or_early (.inr (h w List.mem_cons_self))]
    exact ih fun v hv => h v (List.mem_cons_of_mem w hv)

/-- Settles O29: the accepted sample moves `pos` by at most one (`count_pos`) and is the last accepted one for the whole
burst (`foldl_edgeRegisters_early`). -/
theorem burstCountsAtMostOnce : Obligations.BurstCountsAtMostOnce := by
  unfold Obligations.BurstCountsAtMostOnce
  rintro ⟨c, r, w₀, q, p⟩
  dsimp only
  intro w ws rest hc hl hi hs hearly
  have hfirst := step_edge (s := ⟨c, r, w₀, q, p⟩) hc hs
  have hr := edgeRegisters_of_accepted hl hi
  obtain ⟨v, p', hrun, hp⟩ := runSteps_edges hc ws rest (edgeRegisters r w) w none
  obtain rfl : p' = none := hp (.inr rfl)
  have hkeep : ws.foldl edgeRegisters (edgeRegisters r w) = edgeRegisters r w :=
    foldl_edgeRegisters_early (by rwa [hr, acceptSample_eq])
  rw [hkeep] at hrun
  refine ⟨edgeRegisters r w, v, hfirst, (runSteps_succ _ hfirst).trans hrun, ?_⟩
  rw [hr]
  exact count_pos (r.writeLastAccepted w.now) _

/-! ### Sequences of polls -/

theorem poll_of_not_commits {r : Registers c} {w : Wires c} (h : r.commits w.samplePressed w.now = false) :
    r.poll w = { r with btnRaw := w.samplePressed, btnLastChange := r.windowStart w.samplePressed w.now } := by
  rw [Registers.poll, poll_eq, h]
  simp

/-- A sample not yet stable for the window commits nothing. -/
theorem commits_of_unstable {r : Registers c} {raw : Bool} {t : BitVec c.tsWidth}
    (h : t - r.windowStart raw t < c.btnWindow) : r.commits raw t = false := by
  rw [Registers.commits, decide_eq_false (BitVec.not_le.mpr h), Bool.false_and]

/-- Polls that never see a stable state write the raw state and the window start only. -/
theorem foldl_poll_of_neverStable {r : Registers c} {ws : List (Wires c)}
    (h : neverStable r.btnRaw r.btnLastChange ws) :
    ∃ raw since, ws.foldl Registers.poll r = { r with btnRaw := raw, btnLastChange := since } := by
  induction ws generalizing r with
  | nil => exact ⟨_, _, rfl⟩
  | cons w ws ih =>
    obtain ⟨hw, hws⟩ := h
    rw [List.foldl_cons, poll_of_not_commits (commits_of_unstable hw)]
    exact ih (r := { r with btnRaw := w.samplePressed, btnLastChange := r.windowStart w.samplePressed w.now }) hws

/-- Settles O42: the run folds the polls (`runSteps_updates`), none of which commits (`foldl_poll_of_neverStable`). -/
theorem unstableButtonNeverCommits : Obligations.UnstableButtonNeverCommits := by
  unfold Obligations.UnstableButtonNeverCommits
  rintro ⟨c, r, w₀, q, p⟩
  dsimp only
  intro ws rest hc hl hs hns
  obtain ⟨w', p', hrun⟩ := runSteps_updates hc ws rest r w₀ p hl
  obtain ⟨raw, since, hr⟩ := foldl_poll_of_neverStable hns
  exact ⟨raw, since, w', p', by rw [hs, hrun, hr]⟩

/-- Registers in a press first seen at `t` and not yet committed. -/
def Registers.pressSeen (r : Registers c) (t : BitVec c.tsWidth) : Registers c :=
  { r with btnRaw := true, btnLastChange := t }

theorem samplePressed_of_low {w : Wires c} (h : w.btn = false) : w.samplePressed = true := by
  rw [Wires.samplePressed, h]; rfl

/-- The poll that first sees a press starts its window. -/
theorem poll_first_press {r : Registers c} {w : Wires c} (hraw : r.btnRaw = false) (hwin : 0 < c.btnWindow)
    (hw : w.btn = false) : r.poll w = r.pressSeen w.now := by
  have hsample := samplePressed_of_low hw
  have hstart : r.windowStart w.samplePressed w.now = w.now := by rw [Registers.windowStart, hsample, hraw]; rfl
  rw [poll_of_not_commits (commits_of_unstable (by rwa [hstart, BitVec.sub_self])), hstart, hsample]
  rfl

/-- A poll inside the window of a press changes nothing. -/
theorem poll_within_window {r : Registers c} {t : BitVec c.tsWidth} {u : Wires c} (hu : u.btn = false)
    (hwin : u.now - t < c.btnWindow) : (r.pressSeen t).poll u = r.pressSeen t := by
  have hsample := samplePressed_of_low hu
  have hstart : (r.pressSeen t).windowStart u.samplePressed u.now = t := by
    rw [Registers.windowStart, hsample]; rfl
  rw [poll_of_not_commits (commits_of_unstable (by rwa [hstart])), hstart, hsample]
  rfl

/-- A poll at or after the end of the window commits the press. -/
theorem poll_commits_press {r : Registers c} {t : BitVec c.tsWidth} {v : Wires c} (hstable : r.btnStable = false)
    (hv : v.btn = false) (hwin : c.btnWindow ≤ v.now - t) :
    (r.pressSeen t).poll v =
      { r.pressSeen t with btnStable := true, pressStart := v.now, flagPressed := true } := by
  have hsample := samplePressed_of_low hv
  have hcommits : (r.pressSeen t).commits true v.now = true := by
    simp [Registers.commits, Registers.windowStart, Registers.pressSeen, hwin, hstable]
  rw [Registers.poll, poll_eq, hsample, hcommits]
  simp [Registers.windowStart, Registers.pressSeen]

theorem foldl_poll_within_window {r : Registers c} {t : BitVec c.tsWidth} {ws : List (Wires c)}
    (h : ∀ u ∈ ws, u.btn = false ∧ u.now - t < c.btnWindow) :
    ws.foldl Registers.poll (r.pressSeen t) = r.pressSeen t := by
  induction ws with
  | nil => rfl
  | cons u ws ih =>
    obtain ⟨hu, hwin⟩ := h u List.mem_cons_self
    rw [List.foldl_cons, poll_within_window hu hwin]
    exact ih fun v hv => h v (List.mem_cons_of_mem u hv)

/-- Settles O43: the first poll starts the window, those inside it change nothing, the last one commits. -/
theorem steadyPressCommitsOnce : Obligations.SteadyPressCommitsOnce := by
  unfold Obligations.SteadyPressCommitsOnce
  rintro ⟨c, r, w₀, q, p⟩
  dsimp only
  intro w v ws rest hc hl hstable hraw hwin hs hw hv hws hend
  have hsched : updates (w :: (ws ++ [v])) ++ rest =
      updates (w :: ws) ++ (⟨.command 0x2 0, v⟩ : Stimulus c) :: rest := by simp [updates]
  obtain ⟨w', p', hrun⟩ := runSteps_updates hc (w :: ws) (⟨.command 0x2 0, v⟩ :: rest) r w₀ p hl
  rw [List.foldl_cons, poll_first_press hraw hwin hw, foldl_poll_within_window hws] at hrun
  have hlast := step_update hc (r.pressSeen w.now) w' v rest p' hl
  rw [poll_commits_press hstable hv hend] at hlast
  rw [hs, hsched]
  exact (runSteps_add 1 hrun).trans (runSteps_succ 0 hlast)

end Sys2Proof.Machine
end

section
/-! PROOF. O55 and O56, two steps in either order (`44_decoder_top_and_lifecycle.md` sections 6 and 7): an EDGE step and
a button command write separate halves of the register file, and of a level change and a command in one clock period the
EDGE step is first. -/

namespace Sys2Proof.Machine

variable {c : Config}

/-! ### The frame of an EDGE step -/

theorem edgeRegisters_withButton (r b : Registers c) (w : Wires c) :
    edgeRegisters (r.withButton b) w = (edgeRegisters r w).withButton b := by
  obtain ⟨hl, hi, h⟩ | ⟨hno, h⟩ := edgeRegisters_cases r w <;> rw [h]
  · exact (edgeRegisters_of_accepted (r := r.withButton b) hl hi).trans (acceptSample_withButton ..)
  · exact edgeRegisters_of_detached_or_early (r := r.withButton b) hno

/-- An EDGE step writes the rotary half only. -/
theorem edgeRegisters_eq_withRotary (r : Registers c) (w : Wires c) :
    edgeRegisters r w = r.withRotary (edgeRegisters r w) := by
  obtain ⟨-, -, h⟩ | ⟨-, h⟩ := edgeRegisters_cases r w <;> rw [h]
  · rw [acceptSample_eq]; rfl
  · rfl

theorem edgeRegisters_life (r : Registers c) (w : Wires c) : (edgeRegisters r w).life = r.life := by
  rw [edgeRegisters_eq_withRotary]; rfl

/-! ### The frame of a button command -/

/-- The instructions of the five button commands. -/
abbrev buttonCommands : List Instr := [.update, .isPressed, .wasPressed, .wasReleased, .getPressedDuration]

theorem step_command (hc : c.legal = true) (r : Registers c) (w v : Wires c) (op : Opcode) (arg : BitVec c.cntWidth)
    (rest : List (Stimulus c)) (p : Option (Response c)) :
    step ⟨c, r, w, ⟨.command op arg, v⟩ :: rest, p⟩ = exec (decodeCommand op arg) ⟨c, r, v, rest, p⟩ :=
  step_cons (s := ⟨c, r, w, ⟨.command op arg, v⟩ :: rest, p⟩) hc rfl

theorem decodeCommand_mem_buttonCommands {op : Opcode} (hop : op ∈ [0x2#4, 0x6#4, 0x7#4, 0x8#4, 0x9#4])
    (arg : BitVec c.cntWidth) : decodeCommand op arg ∈ buttonCommands := by
  simp only [List.mem_cons, List.not_mem_nil, or_false] at hop
  obtain rfl | rfl | rfl | rfl | rfl := hop <;> simp [decodeCommand]

/-- A gated command ends the same whatever is still scheduled and whatever was answered before. -/
theorem respondWhenActive_any_schedule (r r₁ : Registers c) (v : Wires c) (d : BitVec c.rspWidth)
    (hl : r₁.life = r.life) :
    ∃ r' p', r'.life = r.life ∧ ∀ q p, respondWhenActive ⟨c, r, v, q, p⟩ r₁ d = .next ⟨c, r', v, q, some p'⟩ := by
  by_cases h : r.life = .active
  · exact ⟨r₁, ⟨.ok, d⟩, hl, fun q p => respondWhenActive_active ⟨c, r, v, q, p⟩ r₁ d h⟩
  · exact ⟨r, ⟨.errState, 0⟩, rfl, fun q p => respondWhenActive_suppressed ⟨c, r, v, q, p⟩ r₁ d h⟩

/-- A button command keeps `life`, and ends the same whatever is still scheduled. -/
theorem buttonCommand_any_schedule (r : Registers c) (v : Wires c) :
    ∀ i ∈ buttonCommands, ∃ r' p', r'.life = r.life ∧
      ∀ q p, exec i ⟨c, r, v, q, p⟩ = .next ⟨c, r', v, q, some p'⟩ := by
  simp only [List.forall_mem_cons]
  refine ⟨?update, ?isPressed, ?wasPressed, ?wasReleased, ?getPressedDuration, List.forall_mem_nil _⟩
  case update => exact respondWhenActive_any_schedule r (r.poll v) v 0 (poll_life r v)
  case wasPressed => exact respondWhenActive_any_schedule r r.consumePressed v (dataOfBit c r.flagPressed) rfl
  case wasReleased => exact respondWhenActive_any_schedule r r.consumeReleased v (dataOfBit c r.flagReleased) rfl
  case isPressed => exact ⟨r, ⟨.ok, dataOfBit c r.btnStable⟩, rfl, fun _ _ => rfl⟩
  case getPressedDuration => exact ⟨r, ⟨.ok, dataOfTime c (r.pressedFor v.now)⟩, rfl, fun _ _ => rfl⟩

/-- A button command writes the button half only. -/
theorem eq_withRotary_of_buttonCommand {s : State} {i : Instr} (hi : i ∈ buttonCommands) {r : Registers s.cfg}
    {p : Option (Response s.cfg)} (h : exec i s = .next (s.complete r p)) : r = r.withRotary s.regs :=
  (next_complete_inj (h.symm.trans ((buttonCommand_withRotary s s.regs i hi).next h))).1

/-- Two register files that differ from a third in separate halves combine to the same, either way round. -/
theorem withRotary_eq_withButton {a b : Registers c} (hl : a.life = b.life) : a.withRotary b = b.withButton a := by
  simp only [Registers.withRotary, Registers.withGate, Registers.withButton, hl]

/-- Settles O55: the command ends the same from registers whose rotary half an EDGE step has written
(`buttonCommand_withRotary`), the EDGE step the same from registers whose button half a command has written
(`edgeRegisters_withButton`). -/
theorem edgeCommutesWithButtonCommands : Obligations.EdgeCommutesWithButtonCommands := by
  unfold Obligations.EdgeCommutesWithButtonCommands
  rintro ⟨c, r, w₀, q, p₀⟩
  dsimp only
  intro w v op arg rest hc hop
  have hi := decodeCommand_mem_buttonCommands hop arg
  obtain ⟨b, p, hl, hexec⟩ := buttonCommand_any_schedule r v _ hi
  have hedge : step ⟨c, r, w₀, ⟨.edge, w⟩ :: ⟨.command op arg, v⟩ :: rest, p₀⟩ =
      .next ⟨c, edgeRegisters r w, w, ⟨.command op arg, v⟩ :: rest, none⟩ := step_edge hc rfl
  have hcommand : step ⟨c, r, w₀, ⟨.command op arg, v⟩ :: ⟨.edge, w⟩ :: rest, p₀⟩ =
      .next ⟨c, b, v, ⟨.edge, w⟩ :: rest, some p⟩ := (step_command hc ..).trans (hexec ..)
  have hcommand' : step ⟨c, edgeRegisters r w, w, ⟨.command op arg, v⟩ :: rest, none⟩ =
      .next ⟨c, b.withRotary (edgeRegisters r w), v, rest, some p⟩ := calc
    _ = exec (decodeCommand op arg) ⟨c, edgeRegisters r w, v, rest, none⟩ := step_command hc ..
    _ = exec (decodeCommand op arg) ⟨c, r.withRotary (edgeRegisters r w), v, rest, none⟩ := by
      rw [← edgeRegisters_eq_withRotary]
    _ = _ := (buttonCommand_withRotary ⟨c, r, v, rest, none⟩ (edgeRegisters r w) _ hi).next (hexec rest none)
  have hedge' : step ⟨c, b, v, ⟨.edge, w⟩ :: rest, some p⟩ =
      .next ⟨c, b.withRotary (edgeRegisters r w), w, rest, none⟩ := by
    have hb : b = r.withButton b :=
      (eq_withRotary_of_buttonCommand (s := ⟨c, r, v, rest, none⟩) hi (hexec ..)).trans (withRotary_eq_withButton hl)
    rw [withRotary_eq_withButton (hl.trans (edgeRegisters_life r w).symm), ← edgeRegisters_withButton, ← hb]
    exact step_edge hc rfl
  exact ⟨b.withRotary (edgeRegisters r w), b, p, (runSteps_succ 1 hedge).trans (runSteps_succ 0 hcommand'),
    runSteps_succ 0 hcommand, (runSteps_succ 1 hcommand).trans (runSteps_succ 0 hedge')⟩

/-! ### A level change and a command in one clock period -/

section together
variable {s : State} (hc : s.cfg.legal = true) (w : Wires s.cfg) (op : Opcode) (arg : BitVec s.cfg.cntWidth)
include hc

/-- The first step of the two is the EDGE step. -/
theorem step_presentTogether :
    step (s.presentTogether op arg w) = .next { s with
      regs := edgeRegisters s.regs w, wires := w, schedule := ⟨.command op arg, w⟩ :: s.schedule, rsp := none } :=
  step_edge (s := s.presentTogether op arg w) hc rfl

/-- The second step is the command, over the registers of the EDGE step. -/
theorem runSteps_presentTogether {t : State}
    (h : exec (decodeCommand op arg) { s with regs := edgeRegisters s.regs w, wires := w, rsp := none } = .next t) :
    runSteps 2 (s.presentTogether op arg w) = .next t :=
  (runSteps_succ 1 (step_presentTogether hc w op arg)).trans (runSteps_succ 0 ((step_command hc ..).trans h))

end together

/-- Settles O56: the EDGE step is first (`step_presentTogether`) and keeps ACTIVE, so the command then does as in any
ACTIVE state (`runSteps_presentTogether`). -/
theorem coincidingEdgeComesFirst : Obligations.CoincidingEdgeComesFirst := by
  unfold Obligations.CoincidingEdgeComesFirst
  intro s w arg hc
  refine ⟨fun op => step_presentTogether hc w op arg, fun hl => ?_⟩
  have hl' : (edgeRegisters s.regs w).life = .active := (edgeRegisters_life ..).trans hl
  let u : State := { s with regs := edgeRegisters s.regs w, wires := w, rsp := none }
  refine ⟨?setPosition, ?resetPosition, ⟨_, ?getPosition, toInt_dataOfPosition ..⟩, ?teardown⟩
  case setPosition =>
    exact runSteps_presentTogether hc w 0x5 arg
      ((exec_setPosition_toInt u arg).trans (respondWhenActive_active u _ _ hl'))
  case resetPosition =>
    exact runSteps_presentTogether hc w 0x4 arg ((exec_resetPosition u).trans (respondWhenActive_active u _ _ hl'))
  case getPosition => exact runSteps_presentTogether hc w 0x3 arg (exec_getPosition u)
  case teardown => exact runSteps_presentTogether hc w 0xA arg rfl

end Sys2Proof.Machine
end
